-- ==== Sys2Proof/Word.lean ====
section
/-! DEFINITION. The plain words of the model: bytes and 16- and 32-bit words where the Description lays out bits,
station numbers, origins and running timers. -/

namespace Sys2Proof

/-- One payload byte of a notice (para 9.7). -/
abbrev Byte := BitVec 8

/-- A 16-bit field of a notice or a word of the parameter memory. -/
abbrev Word16 := BitVec 16

/-- The 32-bit value of a diagnostic request or answer, and the station time (R1). -/
abbrev Word32 := BitVec 32

/-- A station number, 0 to 7 (Table 3-2 of the introduction). -/
abbrev StationNo := Fin 8

/-- An origin number, 0 to 15 (Table 3-2 of the introduction). -/
abbrev Origin := Fin 16

/-- A timer: the milliseconds that remain, or `none` when it is stopped. A running timer that stands at 0 has run out
and waits for its expiry to be taken. -/
abbrev Timer := Option Nat

/-- One value for each of the eight station numbers. -/
structure Table (α : Type) where
  e0 : α
  e1 : α
  e2 : α
  e3 : α
  e4 : α
  e5 : α
  e6 : α
  e7 : α
  deriving DecidableEq, Repr

/-- The value held for station number `n`. -/
def Table.get {α : Type} (t : Table α) (n : StationNo) : α :=
  match n.val with
  | 0 => t.e0
  | 1 => t.e1
  | 2 => t.e2
  | 3 => t.e3
  | 4 => t.e4
  | 5 => t.e5
  | 6 => t.e6
  | _ => t.e7

/-- The table with the value for station number `n` replaced. -/
def Table.set {α : Type} (t : Table α) (n : StationNo) (a : α) : Table α :=
  match n.val with
  | 0 => { t with e0 := a }
  | 1 => { t with e1 := a }
  | 2 => { t with e2 := a }
  | 3 => { t with e3 := a }
  | 4 => { t with e4 := a }
  | 5 => { t with e5 := a }
  | 6 => { t with e6 := a }
  | _ => { t with e7 := a }

/-- The same value for every station number. -/
def Table.fill {α : Type} (a : α) : Table α :=
  { e0 := a, e1 := a, e2 := a, e3 := a, e4 := a, e5 := a, e6 := a, e7 := a }

/-- The table with every value passed through `f`. -/
def Table.map {α : Type} (f : α → α) (t : Table α) : Table α :=
  { e0 := f t.e0, e1 := f t.e1, e2 := f t.e2, e3 := f t.e3,
    e4 := f t.e4, e5 := f t.e5, e6 := f t.e6, e7 := f t.e7 }

/-- The eight station numbers, lowest first. -/
def allStations : List StationNo := [0, 1, 2, 3, 4, 5, 6, 7]

end Sys2Proof
end

