-- ==== Sys2Proof/Config.lean ====
section
/-! DEFINITION. The free values: what the Description leaves open and the machine nevertheless does. Each is an opaque
constant, applied to a counter of the state that every use advances, so that nothing can be proved of a value. -/

namespace Sys2Proof

/-- DESIGN CHOICE (log entry 3). Which of several timer expiries that fall in the same millisecond is taken first; the
Description lets either be taken first and gives no rule. -/
opaque Config.expiryChoice : Nat → Nat

/-- DESIGN CHOICE (log entry 4). The value field of a diagnostic answer for which the Description states no value (a
REFUSED, BUSY or NOT_HELD answer outside the cases that give one). -/
opaque Config.unstatedAnswerValue : Nat → Word32

/-- DESIGN CHOICE (log entry 4). The last-part bit of a diagnostic answer for which the Description states none (every answer
but those to a READ or a RECORD of a part that is held). -/
opaque Config.unstatedLastPart : Nat → Bool

/-- DESIGN CHOICE (log entry 5). The two age bytes of a cab record that has never arrived, or whose age does not fit two
bytes. -/
opaque Config.unstatedAge : Nat → Word16

/-- DESIGN CHOICE (log entry 6). The bytes the parameter memory had sent when the 50 ms limit ended its read. -/
opaque Config.bytesByLimit : Nat → List Byte

end Sys2Proof
end

