-- ==== Sys2Proof/Syntax.lean ====
section
/-! DEFINITION. The commands of the block: one constructor of `Instr` for each row of the table of operations and events,
with the operands the rule of the row gives the event. -/

namespace Sys2Proof

/-- The seven strap pins (Table 10-5), each set or clear at reset release. -/
structure StrapPins where
  sid0 : Bool
  sid1 : Bool
  sid2 : Bool
  role0 : Bool
  role1 : Bool
  role2 : Bool
  spring : Bool
  deriving DecidableEq, Repr

/-- The straps as sampled (R159): the station number, the role code and the spring strap. -/
structure Straps where
  sid : StationNo
  role : Fin 8
  spring : Bool
  deriving DecidableEq, Repr

/-- How the read of the parameter memory ended (R160). -/
inductive ReadEnding
  | complete
  | noAnswer
  | timeLimit
  deriving DecidableEq, Repr

/-- The three valve drivers (R72). -/
inductive ValveDriver
  | apply
  | release
  | park
  deriving DecidableEq, Repr

/-- What a valve driver reports (R72). -/
inductive DriverReport
  | openLoad
  | shortCircuit
  deriving DecidableEq, Repr

/-- The two wheel sensors WHL_L and WHL_R (para 5.1.3). -/
inductive Wheel
  | left
  | right
  deriving DecidableEq, Repr

/-- The direction a wheel pulse carries (para 5.1.3). -/
inductive Direction
  | forward
  | reverse
  deriving DecidableEq, Repr

/-- Why a frame is not valid (R147). -/
inductive InvalidReason
  | badLength
  | badCheck
  | cutShort
  deriving DecidableEq, Repr

/-- The fields of a DIAG request of 8 bytes (Table 9-10), its opcode apart. -/
structure DiagRequest where
  origin : Origin
  target : Byte
  item : Byte
  part : Byte
  value : Word32
  deriving DecidableEq, Repr

/-- A frame of the hold link without its check: class, origin and payload (R146). -/
structure Frame where
  cls : Fin 8
  origin : Origin
  payload : List Byte
  deriving DecidableEq, Repr

/-- The commands. A row that is a received notice carries the notice's origin and its payload bytes; the three HANDOFF
rows carry the payload after its kind byte, and the DIAG rows the fields of an 8-byte request. RESET carries the strap pins,
and the end of the parameter memory read the bytes the memory sent, in their order. A timer row carries no operand: it is the
expiry of that timer. -/
inductive Instr
  | reset (pins : StrapPins)
  | parameterMemoryReadEnd (bytes : List Byte) (ending : ReadEnding)
  | configWaitExpiry
  | inhibitSample (asserted : Bool)
  | accelerometerSample (reading : Option Int)
  | loadSample (raw : BitVec 12)
  | chamberPressureSample (raw : BitVec 12)
  | supplySample (raw : BitVec 12)
  | valveDriverFault (driver : ValveDriver) (report : DriverReport)
  | wheelPulse (wheel : Wheel) (dir : Direction)
  | standstillTimerExpiry
  | vehicleStationaryTimerExpiry
  | springApplyTimerExpiry
  | holdTimeTimerExpiry
  | loweringTimerExpiry
  | plausibilityTimerExpiry
  | limitTimerExpiry
  | decreaseWaitExpiry
  | cabNotice (origin : Origin) (payload : List Byte)
  | cabRecordStaling
  | drumNotice (origin : Origin) (payload : List Byte)
  | drumRecordStaling
  | statusNotice (origin : Origin) (payload : List Byte)
  | entryStalenessDeadline (n : StationNo)
  | entryAbsent (n : StationNo)
  | alarmNotice (origin : Origin) (payload : List Byte)
  | handoffRequest (origin : Origin) (body : List Byte)
  | handoffReply (origin : Origin) (body : List Byte)
  | handoffCancel (origin : Origin) (body : List Byte)
  | attemptTimerExpiry
  | retryWaitExpiry
  | driveOffTimerExpiry
  | turnTimerExpiry
  | lapseTimerExpiry
  | abortFlagTimerExpiry
  | reholdWindowExpiry
  | configNotice (origin : Origin) (payload : List Byte)
  | foreignOwnOriginFrame (cls : Fin 8) (payload : List Byte)
  | invalidFrame (reason : InvalidReason)
  | transmitStart
  | arbitrationLost
  | transmitError
  | frameCompleted (acknowledged : Bool)
  | receiveTimerExpiry
  | announceTimerExpiry
  | diagRead (q : DiagRequest)
  | diagClear (q : DiagRequest)
  | diagWrite (q : DiagRequest)
  | diagRecord (q : DiagRequest)
  | diagTest (q : DiagRequest)
  | diagUnknownOpcode (q : DiagRequest) (opcode : Byte)
  | unclaimedValidFrame (f : Frame)
  deriving DecidableEq, Repr

end Sys2Proof
end

