-- ==== Sys2Proof/WellFormed.lean ====
section
/-! DEFINITION. Which commands are well formed: operands that the event of the row can carry. -/

namespace Sys2Proof

/-- The payload bytes a frame can carry (R147). -/
def payloadLimit : Nat := 12

/-- The bytes of the parameter memory: thirteen words of two bytes (R160). -/
def memoryBytes : Nat := 26

/-- A payload fits a frame. -/
def payloadFits (p : List Byte) : Bool := decide (p.length ≤ payloadLimit)

/-- A HANDOFF payload after its kind byte fits a frame. -/
def bodyFits (b : List Byte) : Bool := decide (b.length + 1 ≤ payloadLimit)

/-- A HANDOFF payload opens with a kind of its own row (Table 9-8). -/
def handoffKind (p : List Byte) : Bool :=
  match p with
  | k :: _ => decide (k.toNat ≤ 2)
  | [] => false

/-- The class and origin of a frame have a taker of their own row, whatever the station (Table 9-2). -/
def Frame.hasTaker (f : Frame) : Bool :=
  match f.cls.val with
  | 0 => decide (f.origin.val < 8)
  | 1 => decide (f.origin.val < 8) && handoffKind f.payload
  | 2 => decide (f.origin.val = 8)
  | 3 => decide (f.origin.val < 8)
  | 4 => decide (f.origin.val = 9)
  | 5 => decide (f.origin.val = 8)
  | _ => false

/-- The bytes of a read that ended complete are those of thirteen words, and fewer otherwise (R160). -/
def bytesFit (b : List Byte) (e : ReadEnding) : Bool :=
  decide (b.length ≤ memoryBytes) && (decide (e = .complete) == decide (b.length = memoryBytes))

/-- A command is well formed. -/
def Instr.wellFormed : Instr → Bool
  | .reset _ => true
  | .parameterMemoryReadEnd b e => bytesFit b e
  | .configWaitExpiry => true
  | .inhibitSample _ => true
  | .accelerometerSample _ => true
  | .loadSample _ => true
  | .chamberPressureSample _ => true
  | .supplySample _ => true
  | .valveDriverFault _ _ => true
  | .wheelPulse _ _ => true
  | .standstillTimerExpiry => true
  | .vehicleStationaryTimerExpiry => true
  | .springApplyTimerExpiry => true
  | .holdTimeTimerExpiry => true
  | .loweringTimerExpiry => true
  | .plausibilityTimerExpiry => true
  | .limitTimerExpiry => true
  | .decreaseWaitExpiry => true
  | .cabNotice _ p => payloadFits p
  | .cabRecordStaling => true
  | .drumNotice _ p => payloadFits p
  | .drumRecordStaling => true
  | .statusNotice _ p => payloadFits p
  | .entryStalenessDeadline _ => true
  | .entryAbsent _ => true
  | .alarmNotice _ p => payloadFits p
  | .handoffRequest _ b => bodyFits b
  | .handoffReply _ b => bodyFits b
  | .handoffCancel _ b => bodyFits b
  | .attemptTimerExpiry => true
  | .retryWaitExpiry => true
  | .driveOffTimerExpiry => true
  | .turnTimerExpiry => true
  | .lapseTimerExpiry => true
  | .abortFlagTimerExpiry => true
  | .reholdWindowExpiry => true
  | .configNotice _ p => payloadFits p
  | .foreignOwnOriginFrame _ p => payloadFits p
  | .invalidFrame _ => true
  | .transmitStart => true
  | .arbitrationLost => true
  | .transmitError => true
  | .frameCompleted _ => true
  | .receiveTimerExpiry => true
  | .announceTimerExpiry => true
  | .diagRead _ => true
  | .diagClear _ => true
  | .diagWrite _ => true
  | .diagRecord _ => true
  | .diagTest _ => true
  | .diagUnknownOpcode _ op => decide (5 ≤ op.toNat)
  | .unclaimedValidFrame f => payloadFits f.payload && !f.hasTaker

/-- The payload bytes of the frame a command stands for; 0 for a command that is no frame. -/
def Instr.payloadLength : Instr → Nat
  | .cabNotice _ p | .drumNotice _ p | .statusNotice _ p | .alarmNotice _ p | .configNotice _ p
  | .foreignOwnOriginFrame _ p => p.length
  | .handoffRequest _ b | .handoffReply _ b | .handoffCancel _ b => b.length + 1
  | .diagRead _ | .diagClear _ | .diagWrite _ | .diagRecord _ | .diagTest _ | .diagUnknownOpcode _ _ => 8
  | .unclaimedValidFrame f => f.payload.length
  | .reset _ | .parameterMemoryReadEnd _ _ | .configWaitExpiry | .inhibitSample _ | .accelerometerSample _
  | .loadSample _ | .chamberPressureSample _ | .supplySample _ | .valveDriverFault _ _ | .wheelPulse _ _
  | .standstillTimerExpiry | .vehicleStationaryTimerExpiry | .springApplyTimerExpiry | .holdTimeTimerExpiry
  | .loweringTimerExpiry | .plausibilityTimerExpiry | .limitTimerExpiry | .decreaseWaitExpiry
  | .cabRecordStaling | .drumRecordStaling | .entryStalenessDeadline _ | .entryAbsent _
  | .attemptTimerExpiry | .retryWaitExpiry | .driveOffTimerExpiry | .turnTimerExpiry | .lapseTimerExpiry
  | .abortFlagTimerExpiry | .reholdWindowExpiry | .invalidFrame _ | .transmitStart | .arbitrationLost
  | .transmitError | .frameCompleted _ | .receiveTimerExpiry | .announceTimerExpiry => 0

end Sys2Proof
end

