-- ==== Sys2Proof/Decode.lean ====
section
/-! DEFINITION. Words and frames: the command a table word spells (the table gives no row any bits), the bits of a frame of the
hold link with its check, the frame read back from bits, and the command a valid frame is (R146, R147, Table 9-2). -/

namespace Sys2Proof

/-- The command a word spells by the table's bits. The table gives no row any, so no word spells a command. -/
def decodeTableWord (_nbits _w : Nat) : Option Instr := none

/-! ### Bits, most significant first (R146) -/

/-- A number as `width` bits; a dominant bit is `false`, the bit 0, and a recessive one `true`. -/
def bitsOfNat (width n : Nat) : List Bool := (List.range width).map (fun i => n.testBit (width - 1 - i))

/-- The number of a run of bits. -/
def natOfBits (l : List Bool) : Nat := l.foldl (fun acc b => 2 * acc + b.toNat) 0

/-- A payload as bits. -/
def bitsOfPayload (p : List Byte) : List Bool := (p.map (fun b => bitsOfNat 8 b.toNat)).flatten

/-- `n` payload bytes of a run of bits. -/
def payloadOfBits : Nat → List Bool → List Byte
  | 0, _ => []
  | n + 1, l => BitVec.ofNat 8 (natOfBits (l.take 8)) :: payloadOfBits n (l.drop 8)

/-- The check register after one bit: polynomial x^16 + x^12 + x^5 + 1 (R146). -/
def checkBit (r : BitVec 16) (b : Bool) : BitVec 16 :=
  if r.getLsbD 15 != b then (r <<< 1) ^^^ 0x1021#16 else r <<< 1

/-- The check of a run of bits, from a register of all ones (R146). -/
def checkOf (l : List Bool) : BitVec 16 := l.foldl checkBit (BitVec.allOnes 16)

/-! ### Frames (R146, R147) -/

/-- The bits the check is formed over: the identifier, the length and the payload. -/
def Frame.body (f : Frame) : List Bool :=
  bitsOfNat 3 f.cls.val ++ bitsOfNat 4 f.origin.val ++ bitsOfNat 4 f.payload.length ++ bitsOfPayload f.payload

/-- The bits of a frame as its sender sends them (R146). -/
def Frame.bits (f : Frame) : List Bool :=
  [false] ++ f.body ++ bitsOfNat 16 (checkOf f.body).toNat ++ [true] ++ List.replicate 6 true

/-- What a receiver finds (R147). -/
inductive Reading
  | valid (f : Frame)
  | invalid (reason : InvalidReason)
  deriving DecidableEq, Repr

/-- The bits before the payload: the start bit, the identifier and the length. -/
def headBits : Nat := 12

/-- The frame of the bits from the start bit to the check, whose length field reads `n` (R147). -/
def readBody (n : Nat) (l : List Bool) : Reading :=
  if l.length < headBits + 8 * n + 16 then .invalid .cutShort
  else if natOfBits ((l.drop (headBits + 8 * n)).take 16) = (checkOf ((l.drop 1).take (11 + 8 * n))).toNat then
    .valid { cls := Fin.ofNat 8 (natOfBits ((l.drop 1).take 3)), origin := Fin.ofNat 16 (natOfBits ((l.drop 4).take 4)),
             payload := payloadOfBits n (l.drop headBits) }
  else .invalid .badCheck

/-- A receiver reads a frame as it passes (R147). -/
def readFrame (l : List Bool) : Reading :=
  if l.length < headBits then .invalid .cutShort
  else if payloadLimit < natOfBits ((l.drop 8).take 4) then .invalid .badLength
  else readBody (natOfBits ((l.drop 8).take 4)) l

/-! ### The command a valid frame is (R149, Table 9-2) -/

/-- The fields of a DIAG request of eight bytes (Table 9-10). -/
def diagFields (origin : Origin) (p : List Byte) : DiagRequest :=
  { origin := origin, target := p.getD 0 0, item := p.getD 2 0, part := p.getD 3 0,
    value := p.getD 4 0 ++ p.getD 5 0 ++ p.getD 6 0 ++ p.getD 7 0 }

/-- The command of a DIAG request, by its opcode (Table 9-10). -/
def diagRow (origin : Origin) (p : List Byte) : Instr :=
  let q := diagFields origin p
  match (p.getD 1 0).toNat with
  | 0 => .diagRead q
  | 1 => .diagWrite q
  | 2 => .diagClear q
  | 3 => .diagRecord q
  | 4 => .diagTest q
  | _ => .diagUnknownOpcode q (p.getD 1 0)

/-- The command of a HANDOFF frame, by its kind (Table 9-8). -/
def handoffRow (f : Frame) : Instr :=
  match f.payload with
  | k :: body =>
    match k.toNat with
    | 0 => .handoffRequest f.origin body
    | 1 => .handoffReply f.origin body
    | 2 => .handoffCancel f.origin body
    | _ => .unclaimedValidFrame f
  | [] => .unclaimedValidFrame f

/-- The command that a valid frame from another node is at the station `self` (Table 9-2). -/
def frameRow (self : StationNo) (f : Frame) : Instr :=
  if f.origin.val = self.val then .foreignOwnOriginFrame f.cls f.payload
  else
    match f.cls.val with
    | 0 => if f.origin.val < 8 then .alarmNotice f.origin f.payload else .unclaimedValidFrame f
    | 1 => if f.origin.val < 8 then handoffRow f else .unclaimedValidFrame f
    | 2 => if f.origin.val = 8 then .cabNotice f.origin f.payload else .unclaimedValidFrame f
    | 3 => if f.origin.val < 8 then .statusNotice f.origin f.payload else .unclaimedValidFrame f
    | 4 => if f.origin.val = 9 then .drumNotice f.origin f.payload else .unclaimedValidFrame f
    | 5 => if f.origin.val = 8 then .configNotice f.origin f.payload else .unclaimedValidFrame f
    | 6 =>
      if decide (14 ≤ f.origin.val) && decide (f.payload.length = 8)
          && decide ((f.payload.getD 0 0).toNat = self.val) then diagRow f.origin f.payload
      else .unclaimedValidFrame f
    | _ => .unclaimedValidFrame f

/-- The command a receiver takes from the bits of a frame: the row of a valid frame, or the invalid frame. -/
def commandOfBits (self : StationNo) (l : List Bool) : Instr :=
  match readFrame l with
  | .valid f => frameRow self f
  | .invalid r => .invalidFrame r

end Sys2Proof
end

