-- ==== Sys2Proof/Machine/State.lean ====
section
/-! DEFINITION. The state of one HC62, block by block as the Description's tables list it (Tables 1-1, 2-1, 3-1, 3-2, 4-1,
5-1, 6-1, 7-1, 8-1, 9-1 and 10-1 and the record cursor of R168), the model's own fields (the queue of waiting commands, the
reports of the event in hand and the counter of free values), and the state right after reset. -/

namespace Sys2Proof.Machine

/-! ### Station controller -/

/-- The ten station states, in the order of their codes (Table 1-2). -/
inductive StationState
  | offline
  | free
  | standstill
  | holding
  | secured
  | releasing
  | leaving
  | alarm
  | service
  | failed
  deriving DecidableEq, Repr

/-- The sixteen fault flags, in the order of the rows of Table 1-3. -/
inductive Flag
  | strapFault
  | pmemFault
  | duplicateId
  | linkLost
  | gradeSensor
  | loadSensor
  | supplySensor
  | pressureSensor
  | valveDriver
  | stepUnreached
  | queueOverrun
  | configConflict
  | configClamped
  | handoffFailed
  | shortfall
  | springShortfall
  deriving DecidableEq, Repr

/-- The fault set: which of the sixteen flags are set (R21). -/
structure FaultSet where
  strapFault : Bool := false
  pmemFault : Bool := false
  duplicateId : Bool := false
  linkLost : Bool := false
  gradeSensor : Bool := false
  loadSensor : Bool := false
  supplySensor : Bool := false
  pressureSensor : Bool := false
  valveDriver : Bool := false
  stepUnreached : Bool := false
  queueOverrun : Bool := false
  configConflict : Bool := false
  configClamped : Bool := false
  handoffFailed : Bool := false
  shortfall : Bool := false
  springShortfall : Bool := false
  deriving DecidableEq, Repr

/-- The states a LEAVING can be entered from (R14). -/
inductive HoldState
  | holding
  | secured
  deriving DecidableEq, Repr

/-- Why a station leaves a hold (R14), and the reason a REQUEST carries (Table 9-8). -/
inductive LeaveReason
  | lift
  | inhibit
  deriving DecidableEq, Repr

/-- Table 1-1. `unparkSpent` is implied by R12: after an un-park step ends UNREACHED a new un-park begins only after the
condition has ceased and holds again. -/
structure Stc where
  state : StationState := .offline
  origin : Option HoldState := none
  leaveReason : Option LeaveReason := none
  holdEntryTime : Word32 := 0
  holdTimer : Timer := none
  limitMark : Bool := false
  unparkMark : Bool := false
  unparkSpent : Bool := false
  lifted : Bool := false
  loweringTimer : Timer := none
  faults : FaultSet := {}
  faultLine : Bool := false
  deriving DecidableEq, Repr

/-! ### Alarm record -/

/-- The cause an ALARM was entered on (Table 8-1). -/
inductive EntryCause
  | ownDistance
  | ownSlip
  | notice
  | peerState
  deriving DecidableEq, Repr

/-- The reason of a rollaway (Table 8-1). -/
inductive AlarmReason
  | distance
  | slip
  | unknown
  deriving DecidableEq, Repr

/-- Table 8-1. The acknowledged peers are a set of station numbers, held as one mark for each. -/
structure AlarmRecord where
  count : Nat := 0
  entryCause : Option EntryCause := none
  entryOrigin : Option StationNo := none
  entryReason : Option AlarmReason := none
  entryDistance : Option Nat := none
  entryGrade : Option Int := none
  entryTime : Option Word32 := none
  ackArmed : Bool := false
  ackPeers : Table Bool := Table.fill false
  deriving DecidableEq, Repr

/-! ### Peer table -/

/-- The presence of an entry (Table 2-2), in the order of the codes of a record read (R168). -/
inductive Presence
  | absent
  | fresh
  | stale
  deriving DecidableEq, Repr

/-- The eight flags a STATUS announces (Table 9-4). -/
structure EntryFlags where
  standstill : Bool := false
  gradeValid : Bool := false
  limited : Bool := false
  shortfall : Bool := false
  isolated : Bool := false
  springsCounted : Bool := false
  lifted : Bool := false
  releaseAbort : Bool := false
  deriving DecidableEq, Repr

/-- Table 2-2. `deadline` is the staleness deadline that R27 sets. DESIGN CHOICE (log entry 31): the announced content of a blank
entry is that of a STATUS of zeros, with no grade. -/
structure Entry where
  presence : Presence := .absent
  role : Fin 8 := 0
  spring : Bool := false
  state : StationState := .offline
  flags : EntryFlags := {}
  load : Nat := 0
  loadValid : Bool := false
  grade : Option Int := none
  capacity : Nat := 0
  share : Nat := 0
  achieved : Nat := 0
  creep : Nat := 0
  sinceStatus : Nat := 2000
  deadline : Timer := none
  leaving : Bool := false
  deriving DecidableEq, Repr

/-- The gear of the cab record (Table 2-3). -/
inductive Gear
  | neutral
  | forward
  | reverse
  deriving DecidableEq, Repr

/-- The surface class of the cab record (Table 2-3). -/
inductive Surface
  | dry
  | wet
  | loose
  deriving DecidableEq, Repr

/-- The fields of the cab record (Table 2-3), as stored or as read. DESIGN CHOICE (log entry 31): a blank record holds every mark
off, NEUTRAL, DRY and a drive force of 0. -/
structure CabValues where
  park : Bool := false
  pedal : Bool := false
  driver : Bool := false
  ignition : Bool := false
  gear : Gear := .neutral
  driveForce : Nat := 0
  liftBits : Byte := 0
  ack : Bool := false
  surface : Surface := .dry
  deriving DecidableEq, Repr

/-- The cab record: its stored content, whether it is fresh, its arrival time and the 200 ms of R31. -/
structure CabRecord where
  fresh : Bool := false
  content : CabValues := {}
  arrival : Option Word32 := none
  staleTimer : Timer := none
  deriving DecidableEq, Repr

/-- The drum record (R33). DESIGN CHOICE (log entry 31): a blank one holds a speed of 0, not discharging. -/
structure DrumRecord where
  fresh : Bool := false
  speed : Int := 0
  discharging : Bool := false
  arrival : Option Word32 := none
  staleTimer : Timer := none
  deriving DecidableEq, Repr

/-- Table 2-1. The pool and its two sets are held as station numbers, lowest first. -/
structure Ptb where
  entries : Table Entry := Table.fill {}
  cab : CabRecord := {}
  drum : DrumRecord := {}
  pool : List StationNo := []
  fixedSet : List StationNo := []
  flexibleSet : List StationNo := []
  vehicleStationary : Bool := false
  stationaryTimer : Timer := none
  eVehicle : Nat := 0
  alarmPeer : Bool := false
  abortPeer : Bool := false
  lastDuplicate : Option Word32 := none
  deriving DecidableEq, Repr

/-! ### Grade and load unit -/

/-- Table 3-1. `lastLoadRaw` is implied by Table 1-3: the latest raw value decides whether LOAD_SENSOR can be cleared. -/
structure Glu where
  accWindow : List Int := []
  accAverage : Option Int := none
  ownGrade : Option Int := none
  gradeValid : Bool := false
  accAnswering : Bool := true
  plausibilityTimer : Timer := none
  plausibilityFailed : Bool := false
  loadWindow : List Nat := []
  loadAverage : Option Nat := none
  loadValid : Bool := false
  lastLoadRaw : Option (BitVec 12) := none
  deriving DecidableEq, Repr

/-! ### Hold planner -/

/-- The decrease wait of R66: what remains of it, the target at its start, and the lowest target computed since it began. -/
structure DecreaseWait where
  remaining : Nat
  start : Nat
  lowest : Nat
  deriving DecidableEq, Repr

/-- Table 3-2, the plan record. -/
structure Plan where
  g : Option Int := none
  lastG : Int := 600
  m : Nat := 0
  k : Nat := 64
  ge : Nat := 0
  fReq : Nat := 0
  fNom : Nat := 0
  pTop : Nat := 0
  cb : Nat := 0
  l : Nat := 0
  sc : Nat := 0
  c : Nat := 0
  r : Nat := 0
  poolCapacity : Nat := 0
  share : Nat := 0
  pT : Nat := 0
  clamped : Bool := false
  a : Nat := 0
  springCapacity : Nat := 0
  lastSubmitted : Nat := 0
  decreaseWait : Option DecreaseWait := none
  limited : Bool := false
  bestAchieved : Nat := 0
  limitTimer : Timer := none
  planLock : Bool := false
  deriving DecidableEq, Repr

/-! ### Brake modulator controller -/

/-- The submitters of steps, in the order of their codes in a step part (R168). -/
inductive Source
  | planner
  | release
  | alarm
  | test
  deriving DecidableEq, Repr

/-- The join of MOD (Table 4-1). -/
inductive Join
  | idleVent
  | idleTrap
  | planner
  | release
  | alarm
  | test
  deriving DecidableEq, Repr

/-- A step as MOD holds it (para 4.5.1). -/
structure Step where
  target : Nat
  rate : Nat
  source : Source
  clamped : Bool := false
  unpark : Bool := false
  deriving DecidableEq, Repr

/-- How a step ended (R85). -/
inductive StepOutcome
  | reached
  | unreached
  | fault
  | superseded
  deriving DecidableEq, Repr

/-- The report of a step's outcome (R85). -/
structure StepEnd where
  outcome : StepOutcome
  source : Source
  target : Nat
  clamped : Bool
  unpark : Bool
  pMeas : Nat
  highest : Nat
  retry : Nat
  deriving DecidableEq, Repr

/-- Table 4-3. `elapsed` is the time since the beginning or the latest retry, and `inBand` the in-band timer as the time it
has run. -/
structure InFlight where
  step : Step
  start : Nat
  intermediate : Nat
  allowed : Nat
  retry : Nat
  inBand : Option Nat
  highest : Nat
  elapsed : Nat
  deriving DecidableEq, Repr

/-- The latest energising of the park valve: its station time, and whether SPRINGS_COUNTED was set just before (R88). -/
structure Energising where
  time : Word32
  counted : Bool
  deriving DecidableEq, Repr

/-- Table 4-1. `lastSupplyRaw` is implied by Table 1-3: the latest raw value decides whether SUPPLY_SENSOR can be cleared. -/
structure Mod where
  join : Join := .idleTrap
  queue : List Step := []
  inFlight : Option InFlight := none
  standing : Option Nat := none
  pMeas : Nat := 0
  pSup : Nat := 0
  applyCmd : Bool := false
  releaseCmd : Bool := false
  parkCmd : Bool := false
  springsCounted : Bool := false
  springTimer : Timer := none
  lastEnergising : Option Energising := none
  dropped : Nat := 0
  lastSupplyRaw : Option (BitVec 12) := none
  deriving DecidableEq, Repr

/-! ### Creep and slip monitor -/

/-- The downhill direction (Table 5-1). -/
inductive Downhill
  | reverse
  | forward
  | either
  deriving DecidableEq, Repr

/-- Table 5-1. -/
structure Crm where
  left : Int := 0
  right : Int := 0
  axle : Int := 0
  d : Int := 0
  standstill : Bool := false
  standstillTimer : Timer := some 500
  rebase : Int := 0
  eOwn : Nat := 0
  rollBase : Int := 0
  downhill : Downhill := .either
  slipReference : Option Int := none
  slipRun : Nat := 0
  slipAccumulated : Nat := 0
  watch : Bool := false
  deriving DecidableEq, Repr

/-- A rollaway report of CRM to STC (R97, R102). -/
structure Rollaway where
  reason : AlarmReason
  travel : Nat
  grade : Int
  deriving DecidableEq, Repr

/-! ### Hand-off engine -/

/-- The leaver phases (Table 6-1). -/
inductive LeaverPhase
  | idle
  | deferred
  | exchange
  | ramp
  deriving DecidableEq, Repr

/-- The answers of a REPLY, in the order of their codes (Table 9-8). -/
inductive Answer
  | accept
  | defer
  | refuse
  deriving DecidableEq, Repr

/-- A reply gathered: the answer and the achieved force it carried. -/
structure Reply where
  answer : Answer
  force : Nat
  deriving DecidableEq, Repr

/-- A replier record (Table 6-1). DESIGN CHOICE (log entry 38): its force has no value none and is 0 after reset. -/
structure ReplierRecord where
  toggle : Option Bool := none
  reason : Option LeaveReason := none
  force : Nat := 0
  answer : Option Answer := none
  deriving DecidableEq, Repr

/-- Table 6-1. `rampSteps` counts the steps of the hand-off profile that have ended (R111). -/
structure Hoe where
  phase : LeaverPhase := .idle
  toggle : Bool := false
  attempts : Nat := 0
  attemptTimer : Timer := none
  replies : Table (Option Reply) := Table.fill none
  retryWait : Timer := none
  repliers : Table ReplierRecord := Table.fill {}
  planPending : Bool := false
  rampSteps : Nat := 0
  deriving DecidableEq, Repr

/-! ### Release sequencer -/

/-- The release phases (Table 7-1). -/
inductive ReleasePhase
  | idle
  | waitingTurn
  | ramping
  deriving DecidableEq, Repr

/-- The reasons of an abort (Table 7-1). -/
inductive AbortReason
  | rollback
  | lapse
  | peer
  deriving DecidableEq, Repr

/-- Table 7-1. `rampSteps` counts the steps of the drive-off profile that have ended (R127). -/
structure Rsq where
  phase : ReleasePhase := .idle
  driveOffTimer : Timer := none
  entryGear : Option Direction := none
  rank : Option Nat := none
  turnTimer : Timer := none
  rollbackBase : Int := 0
  lapseTimer : Timer := none
  profileAppended : Bool := false
  abortFlag : Bool := false
  abortFlagTimer : Timer := none
  releaseCompleted : Option Word32 := none
  reholdWindow : Timer := none
  lastAbort : Option AbortReason := none
  abortCount : Nat := 0
  rampSteps : Nat := 0
  deriving DecidableEq, Repr

/-! ### Link interface -/

/-- The four transmit slots, in class order (R150). -/
inductive Slot
  | alarm
  | handoff
  | status
  | diag
  deriving DecidableEq, Repr

/-- An own ALARM notice as placed (R136). -/
structure AlarmNotice where
  reason : AlarmReason
  travel : Nat
  grade : Int
  deriving DecidableEq, Repr

/-- A HANDOFF notice as placed. A REQUEST's achieved force is read when it is framed (R150). -/
inductive HandoffNotice
  | request (toggle : Bool) (reason : LeaveReason)
  | reply (leaver : StationNo) (toggle : Bool) (answer : Answer) (force : Nat)
  | cancel (toggle : Bool)
  deriving DecidableEq, Repr

/-- The results of a diagnostic answer, in the order of their codes (Table 9-11). -/
inductive DiagResult
  | done
  | notHeld
  | refused
  | busy
  deriving DecidableEq, Repr

/-- A DIAG answer as placed (Table 9-11): its value or record bytes are `body`. -/
structure DiagAnswer where
  item : Byte
  result : DiagResult
  part : Byte
  last : Bool
  body : List Byte
  deriving DecidableEq, Repr

/-- The slot in transmission, the frame as framed, and whether newer content was placed in the slot meanwhile (R151). -/
structure Transmission where
  slot : Slot
  frame : Frame
  renewed : Bool
  deriving DecidableEq, Repr

/-- The link states (R152, R153). -/
inductive LinkState
  | active
  | degraded
  | lost
  deriving DecidableEq, Repr

/-- Table 9-1. -/
structure Lnk where
  alarmSlot : Option AlarmNotice := none
  handoffSlot : Option HandoffNotice := none
  statusPending : Bool := false
  diagSlot : Option DiagAnswer := none
  transmission : Option Transmission := none
  failures : Nat := 0
  link : Option LinkState := none
  receiveTimer : Timer := none
  recoveryAck : Bool := false
  recoveryFrames : Nat := 0
  announceTimer : Timer := none
  validFrames : Nat := 0
  checkFailures : Nat := 0
  unclaimed : Nat := 0
  deriving DecidableEq, Repr

/-! ### Start-up and configuration -/

/-- The parameter memory status (Table 10-1). -/
inductive PmemStatus
  | reading
  | valid
  | fault
  deriving DecidableEq, Repr

/-- The axle parameters (Table 10-2). -/
structure AxleParams where
  brakeGain : Nat
  pMax : Nat
  springForce : Nat
  springApply : Nat
  springRelease : Nat
  teeth : Nat
  circumference : Nat
  loadScale : Nat
  loadOffset : Int
  ratedLoad : Nat
  ratedGross : Nat
  accOffset : Int
  deriving DecidableEq, Repr

/-- The vehicle parameters, with their defaults (Table 10-3). -/
structure VehicleParams where
  k0 : Nat := 80
  kd : Nat := 8
  creepThreshold : Nat := 40
  rollawayThreshold : Nat := 200
  hillThreshold : Nat := 30
  gMin : Nat := 20
  holdLimit : Nat := 120
  releaseFloor : Nat := 100
  rollbackLimit : Nat := 100
  deriving DecidableEq, Repr

/-- The config wait (Table 10-1). -/
inductive ConfigWait
  | running
  | ended
  deriving DecidableEq, Repr

/-- Table 10-1. `words` are the words of the parameter memory as read, and `readTimer` the 50 ms limit of R160 (log entry 21). -/
structure Suc where
  sid : StationNo := 0
  role : Fin 8 := 0
  spring : Bool := false
  pmem : PmemStatus := .reading
  readTimer : Timer := some 50
  words : List Word16 := []
  axle : Option AxleParams := none
  vehicle : VehicleParams := {}
  lock : Bool := false
  accepted : Option (List Byte) := none
  configWait : ConfigWait := .running
  configTimer : Timer := some 2000
  inhibitOlder : Bool := false
  inhibitLatest : Bool := false
  inhibit : Bool := false
  deriving DecidableEq, Repr

/-! ### Diagnostic responder -/

/-- The open record cursor (R168): the record item and the copy of its parts. The last part's number is the number of parts
less one. -/
structure Cursor where
  item : Nat
  parts : List (List Byte)
  deriving DecidableEq, Repr

/-- The one piece of state of DGR (R165). -/
structure Dgr where
  cursor : Option Cursor := none
  deriving DecidableEq, Repr

/-! ### Reports of the event in hand -/

/-- The reports between blocks that the event in hand has called for and that have not been taken yet. It is empty between
commands. -/
structure Agenda where
  ends : List StepEnd := []
  rollaways : List Rollaway := []
  peerAlarms : List StationNo := []
  abortEvent : Bool := false
  yields : List StationNo := []
  exits : Bool := false
  plan : Bool := false
  force : Bool := false
  abortTest : Bool := false
  turn : Bool := false
  ramp : Bool := false
  success : Bool := false
  answers : Bool := false
  deriving DecidableEq, Repr

/-! ### The machine -/

/-- The state of one HC62. `pending` is the model's queue of commands that wait, `agenda` the reports of the event in hand
and `freeCount` the number of free values used so far. `now` is the station time of R1. -/
structure State where
  pending : List Instr := []
  freeCount : Nat := 0
  agenda : Agenda := {}
  now : Word32 := 0
  stc : Stc := {}
  alarm : AlarmRecord := {}
  ptb : Ptb := {}
  glu : Glu := {}
  hpl : Plan := {}
  mod : Mod := {}
  crm : Crm := {}
  hoe : Hoe := {}
  rsq : Rsq := {}
  lnk : Lnk := {}
  suc : Suc := {}
  dgr : Dgr := {}
  deriving DecidableEq, Repr

/-- Why the block stops. No rule of the Description stops it, and no meaning answers with a fault: the type is empty. -/
inductive Fault
  deriving DecidableEq, Repr

/-- Why a command has no outcome. -/
inductive Refusal
  /-- Raised by an arm of `exec` whose row has no meaning yet; no arm raises it. Safe: the model stops where the hardware
  goes on. -/
  | notModelled (mnemonic : String)
  deriving DecidableEq, Repr

/-- The release rank of a role code (R125): none for the codes 5 to 7 (R159). -/
def rankOfRole (role : Fin 8) : Option Nat :=
  match role.val with
  | 0 => some 1
  | 1 => some 2
  | 2 => some 1
  | 3 => some 0
  | 4 => some 0
  | _ => none

/-- The own entry as made at reset release (R25). -/
def entryAtReset (x : Straps) : Entry :=
  { presence := .fresh, role := x.role, spring := x.spring, sinceStatus := 0 }

/-- The state right after reset release with the straps `x` (R1, R158): every item at the reset value of its table, the
straps sampled (R159), the link listening and ACTIVE with its receive timer started (R145), the announce timer started with
the passive period, the config wait and the parameter memory read begun, and STRAP_FAULT raised on a role code of 5 to 7. -/
def State.afterReset (x : Straps) : State :=
  let strapFault := decide (5 ≤ x.role.val)
  { stc := { faults := { strapFault := strapFault }, faultLine := strapFault }
    ptb := { entries := (Table.fill {}).set x.sid (entryAtReset x) }
    rsq := { rank := rankOfRole x.role }
    lnk := { link := some .active, receiveTimer := some 1000, announceTimer := some 100 }
    suc := { sid := x.sid, role := x.role, spring := x.spring } }

/-- The machine right after reset. DESIGN CHOICE (log entry 1): the straps are those of station 0, STEER, no spring
brakes, the pins all clear; the RESET command samples any other. -/
def State.reset : State :=
  State.afterReset { sid := 0, role := 0, spring := false }

end Sys2Proof.Machine
end

