-- ==== Sys2Proof/Machine/Ops.lean ====
section
/-! DEFINITION. The named operations every block uses: the arithmetic of para 3.3 of the introduction, timers and station
time, the lookups of the peer table and of the straps, the cab record as read, the transmit slots (R150), the immediate
STATUS (R156), and the raising of a fault flag (R21). -/

namespace Sys2Proof.Machine

/-! ### Arithmetic (introduction, para 3.3) -/

/-- Division with its result rounded up. -/
def ceilDiv (a b : Nat) : Nat := (a + (b - 1)) / b

/-- A count raised by one that stops at its limit. -/
def satInc (limit n : Nat) : Nat := if n < limit then n + 1 else n

/-- A whole number clamped to a range. -/
def clampInt (lo hi x : Int) : Int := if x < lo then lo else if hi < x then hi else x

/-- A count clamped to a range. -/
def clampNat (lo hi x : Nat) : Nat := if x < lo then lo else if hi < x then hi else x

/-- The distance between two whole numbers. -/
def distance (a b : Nat) : Nat := (a - b) + (b - a)

/-! ### Timers and station time -/

/-- A timer has run out and its expiry is to be taken. -/
def timerDue (t : Timer) : Bool := decide (t = some 0)

/-- A timer runs, so that the command that is its expiry has something to end. The command is the event itself: it is taken
at whatever time it is given, and changes nothing where the timer is stopped (log entry 2). -/
def timerRuns (t : Timer) : Bool := t.isSome

/-- A timer after one more millisecond. -/
def timerTick (t : Timer) : Timer := t.map (· - 1)

/-- A timer that runs while a condition lasts: started in full when the condition begins, stopped when it ceases. -/
def timerWhile (cond : Bool) (length : Nat) (t : Timer) : Timer :=
  if cond then (if t.isSome then t else some length) else none

/-- The remaining time of a timer as the service tool reads it: 0 when stopped (R166). -/
def timerRemaining (t : Timer) : Nat := t.getD 0

/-- The time since a station time, taken modulo 2^32 (R1). -/
def timeSince (now t : Word32) : Nat := (now - t).toNat

/-! ### Station states -/

/-- The station state code (Table 1-2). -/
def StationState.code : StationState → Nat
  | .offline => 0
  | .free => 1
  | .standstill => 2
  | .holding => 3
  | .secured => 4
  | .releasing => 5
  | .leaving => 6
  | .alarm => 7
  | .service => 8
  | .failed => 9

/-- The station state of a code; the codes 10 to 15 name none (R26). -/
def stateOfCode (n : Nat) : Option StationState :=
  match n with
  | 0 => some .offline
  | 1 => some .free
  | 2 => some .standstill
  | 3 => some .holding
  | 4 => some .secured
  | 5 => some .releasing
  | 6 => some .leaving
  | 7 => some .alarm
  | 8 => some .service
  | 9 => some .failed
  | _ => none

/-- The passive states (Table 1-2). -/
def StationState.passive : StationState → Bool
  | .offline | .free | .service | .failed => true
  | .standstill | .holding | .secured | .releasing | .leaving | .alarm => false

/-- The states whose stations share the hold (R34). -/
def StationState.inPool : StationState → Bool
  | .standstill | .holding | .secured => true
  | .offline | .free | .releasing | .leaving | .alarm | .service | .failed => false

/-- The states CRM watches the hold in (R93). -/
def StationState.monitored : StationState → Bool
  | .holding | .secured | .leaving => true
  | .offline | .free | .standstill | .releasing | .alarm | .service | .failed => false

/-- The states the share is computed in (R59). -/
def StationState.sharing : StationState → Bool
  | .standstill | .holding | .secured | .alarm => true
  | .offline | .free | .releasing | .leaving | .service | .failed => false

/-- The states an alarm cause takes to ALARM (R19). -/
def StationState.alarmable : StationState → Bool
  | .free | .standstill | .holding | .secured | .releasing | .leaving => true
  | .offline | .alarm | .service | .failed => false

/-- The state a leaver came from, as a station state. -/
def HoldState.toState : HoldState → StationState
  | .holding => .holding
  | .secured => .secured

/-- The announce period of a state's class, in ms (R155). -/
def announcePeriod (st : StationState) : Nat := if st.passive then 100 else 20

/-! ### Fault set -/

/-- Whether a flag of the fault set is set. -/
def FaultSet.get (fs : FaultSet) : Flag → Bool
  | .strapFault => fs.strapFault
  | .pmemFault => fs.pmemFault
  | .duplicateId => fs.duplicateId
  | .linkLost => fs.linkLost
  | .gradeSensor => fs.gradeSensor
  | .loadSensor => fs.loadSensor
  | .supplySensor => fs.supplySensor
  | .pressureSensor => fs.pressureSensor
  | .valveDriver => fs.valveDriver
  | .stepUnreached => fs.stepUnreached
  | .queueOverrun => fs.queueOverrun
  | .configConflict => fs.configConflict
  | .configClamped => fs.configClamped
  | .handoffFailed => fs.handoffFailed
  | .shortfall => fs.shortfall
  | .springShortfall => fs.springShortfall

/-- The fault set with one flag set or cleared. -/
def FaultSet.put (fs : FaultSet) (f : Flag) (b : Bool) : FaultSet :=
  match f with
  | .strapFault => { fs with strapFault := b }
  | .pmemFault => { fs with pmemFault := b }
  | .duplicateId => { fs with duplicateId := b }
  | .linkLost => { fs with linkLost := b }
  | .gradeSensor => { fs with gradeSensor := b }
  | .loadSensor => { fs with loadSensor := b }
  | .supplySensor => { fs with supplySensor := b }
  | .pressureSensor => { fs with pressureSensor := b }
  | .valveDriver => { fs with valveDriver := b }
  | .stepUnreached => { fs with stepUnreached := b }
  | .queueOverrun => { fs with queueOverrun := b }
  | .configConflict => { fs with configConflict := b }
  | .configClamped => { fs with configClamped := b }
  | .handoffFailed => { fs with handoffFailed := b }
  | .shortfall => { fs with shortfall := b }
  | .springShortfall => { fs with springShortfall := b }

/-- The flags whose raising or clearing changes a fallback of the computation, and is a plan event (R53). -/
def Flag.changesFallback : Flag → Bool
  | .gradeSensor | .loadSensor | .supplySensor | .linkLost | .duplicateId => true
  | _ => false

/-- A flag of the own fault set. -/
def hasFault (s : State) (f : Flag) : Bool := s.stc.faults.get f

/-- STC sets or clears a flag (R21). A change of a flag enters the exits of the state, and is a plan event where it changes a
fallback (R53). -/
def putFault (f : Flag) (b : Bool) (s : State) : State :=
  let changed := s.stc.faults.get f != b
  { s with
    stc := { s.stc with faults := s.stc.faults.put f b }
    agenda := { s.agenda with
      exits := s.agenda.exits || changed
      plan := s.agenda.plan || (changed && f.changesFallback) } }

/-- STC raises a flag on its owner's report (R21). -/
def raiseFault (f : Flag) (s : State) : State := putFault f true s

/-! ### Lookups -/

/-- The own station number, as strapped (R159). -/
def own (s : State) : StationNo := s.suc.sid

/-- The entry of station `n`. -/
def entryOf (s : State) (n : StationNo) : Entry := s.ptb.entries.get n

/-- The station numbers other than the own. -/
def peersOf (s : State) : List StationNo := allStations.filter (fun n => decide (n ≠ own s))

/-- An entry is FRESH. -/
def Entry.isFresh (e : Entry) : Bool := decide (e.presence = .fresh)

/-- The peers whose entries are FRESH. -/
def freshPeers (s : State) : List StationNo := (peersOf s).filter (fun n => (entryOf s n).isFresh)

/-- The role lets an axle be lifted: LIFT or BOOSTER (R14). -/
def liftRole (s : State) : Bool := decide (s.suc.role.val = 3) || decide (s.suc.role.val = 4)

/-- LINK_LOST or DUPLICATE_ID is set (R41). -/
def isolatedFlags (s : State) : Bool := s.stc.faults.linkLost || s.stc.faults.duplicateId

/-- HPL computes in isolated mode: the flags of R41, in a state where R59 applies (R60). -/
def isolatedMode (s : State) : Bool := isolatedFlags s && s.stc.state.sharing

/-! ### Cab record as read -/

/-- The stale readings of Table 2-3. -/
def staleCab : CabValues :=
  { park := true, pedal := false, driver := false, ignition := false, gear := .neutral, driveForce := 0,
    liftBits := 0, ack := false, surface := .loose }

/-- The values read from a cab record: its content while fresh, the stale readings otherwise (R31). -/
def CabRecord.read (c : CabRecord) : CabValues := if c.fresh then c.content else staleCab

/-- The cab record as every block reads it now. -/
def cabNow (s : State) : CabValues := s.ptb.cab.read

/-- The own lift bit as read. -/
def ownLiftBit (s : State) : Bool := (cabNow s).liftBits.getLsbD (own s).val

/-- The lift bit addressed to the own station, with a role that can be lifted (R14, R16). -/
def liftAsked (s : State) : Bool := ownLiftBit s && liftRole s

/-- A hand-off reason is present (R14). -/
def handoffReason (s : State) : Bool := liftAsked s || s.suc.inhibit

/-- A securing condition holds (R6): park on, driver absent, ignition off, or the record stale. -/
def securing (s : State) : Bool :=
  let c := cabNow s
  c.park || !c.driver || !c.ignition || !s.ptb.cab.fresh

/-- The un-park condition (R11). -/
def unparkCondition (s : State) : Bool :=
  let c := cabNow s
  s.ptb.cab.fresh && c.driver && !c.park && c.pedal && c.ignition

/-- The acknowledgement shown by the cab record (R19). -/
def acknowledgementShown (s : State) : Bool :=
  let c := cabNow s
  s.ptb.cab.fresh && c.ack && c.driver && c.pedal && c.park

/-- The drum reads as rotating (R33). -/
def DrumRecord.rotating (d : DrumRecord) : Bool := !d.fresh || decide (5 ≤ d.speed.natAbs) || d.discharging

/-! ### Transmit slots (R150, R156) -/

/-- A slot on the link takes newer content (R151). -/
def Lnk.renew (slot : Slot) (l : Lnk) : Option Transmission :=
  l.transmission.map (fun t => if t.slot = slot then { t with renewed := true } else t)

/-- The STATUS pending mark is set (R155, R156). -/
def callStatus (s : State) : State :=
  { s with lnk := { s.lnk with statusPending := true, transmission := s.lnk.renew .status } }

/-- The STATUS pending mark is set where a condition calls for it. -/
def callStatusIf (b : Bool) (s : State) : State := if b then callStatus s else s

/-- STC places an ALARM notice (R136). -/
def placeAlarm (a : AlarmNotice) (s : State) : State :=
  { s with lnk := { s.lnk with alarmSlot := some a, transmission := s.lnk.renew .alarm } }

/-- HOE places a HANDOFF notice (R150). -/
def placeHandoff (h : HandoffNotice) (s : State) : State :=
  { s with lnk := { s.lnk with handoffSlot := some h, transmission := s.lnk.renew .handoff } }

/-- DGR places an answer (R150). -/
def placeDiag (a : DiagAnswer) (s : State) : State :=
  { s with lnk := { s.lnk with diagSlot := some a, transmission := s.lnk.renew .diag } }

/-- A REQUEST not yet sent is removed from its slot (R114); any other notice stays. -/
def dropRequest (h : Option HandoffNotice) : Option HandoffNotice :=
  match h with
  | some (.request _ _) => none
  | other => other

end Sys2Proof.Machine
end

