-- ==== Sys2Proof/Machine/Flags.lean ====
section
/-! DEFINITION. The flags the station computes from its state: the FAULT line (R23), the flags of the own entry (R25), the
validity flags of GLU (R46, R49) and the conditions that block a CLEAR (Table 1-3). -/

namespace Sys2Proof.Machine

/-- The FAULT line is asserted (R23). -/
def faultLineOf (s : State) : Bool :=
  let f := s.stc.faults
  decide (s.stc.state = .failed)
    || (decide (s.stc.state = .offline) && (f.strapFault || f.pmemFault))
    || decide (s.stc.state = .alarm)
    || f.shortfall
    || (f.springShortfall && decide (s.stc.state = .secured) && (!(cabNow s).ignition || !s.ptb.cab.fresh))

/-- GRADE_VALID (R46). -/
def gradeValidOf (s : State) : Bool :=
  s.crm.standstill && decide (s.glu.accWindow.length = 8) && s.glu.accAnswering && !s.stc.faults.gradeSensor

/-- LOAD_VALID (R49). -/
def loadValidOf (s : State) : Bool := decide (s.glu.loadWindow.length = 16) && !s.stc.faults.loadSensor

/-- The own flags as announced (R25). -/
def ownFlags (s : State) : EntryFlags :=
  { standstill := s.crm.standstill
    gradeValid := s.glu.gradeValid
    limited := s.hpl.limited
    shortfall := s.stc.faults.shortfall
    isolated := isolatedFlags s
    springsCounted := s.mod.springsCounted
    lifted := s.stc.lifted
    releaseAbort := s.rsq.abortFlag }

/-- A raw value of the load sensor that is no load (R49). -/
def loadRawBad (raw : BitVec 12) : Bool := decide (raw.toNat = 0) || decide (raw.toNat = 4095)

/-- A raw value of a pressure sensor that is no pressure (R69, R70). -/
def pressureRawBad (raw : BitVec 12) : Bool := decide (raw.toNat < 40) || decide (4055 < raw.toNat)

/-- The condition that blocks the CLEAR of a flag is present (Table 1-3, last column). -/
def clearBlocked (s : State) (f : Flag) : Bool :=
  match f with
  | .strapFault | .pmemFault => true
  | .duplicateId => (s.ptb.lastDuplicate.map (fun t => decide (timeSince s.now t ≤ 2000))).getD false
  | .linkLost => decide (s.lnk.link = some .lost)
  | .gradeSensor => s.glu.plausibilityFailed || !s.glu.accAnswering
  | .loadSensor => (s.glu.lastLoadRaw.map loadRawBad).getD false
  | .supplySensor => (s.mod.lastSupplyRaw.map pressureRawBad).getD false
  | .pressureSensor | .valveDriver => decide (s.stc.state = .failed)
  | .stepUnreached => s.hpl.limited
  | .queueOverrun | .configConflict | .configClamped => false
  | .handoffFailed => handoffReason s && s.hoe.retryWait.isSome
  | .shortfall | .springShortfall => s.stc.faults.get f

end Sys2Proof.Machine
end

