-- ==== Sys2Proof/Machine/Modulator.lean ====
section
/-! DEFINITION. The brake modulator controller (Chapter 4): valve commands, the join, the step queue, step execution and its
outcomes, the park valve and spring counting. Each operation acts on the record of MOD alone, so that what it leaves
unchanged elsewhere is plain. -/

namespace Sys2Proof.Machine

/-- Half the width of the control band about a reference, in kPa (R71). -/
def controlBand : Nat := 15

/-- The in-band time that gives REACHED, in ms (R82). -/
def inBandTime : Nat := 60

/-- The places of the pending queue (R75). -/
def queueLimit : Nat := 16

/-- A pressure of a 12-bit raw value, in kPa (R69, R70). -/
def pressureOfRaw (raw : BitVec 12) : Nat := raw.toNat * 1100 / 4096

/-- The source a join names (R73); none for the idle joins. -/
def Join.source : Join → Option Source
  | .idleVent | .idleTrap => none
  | .planner => some .planner
  | .release => some .release
  | .alarm => some .alarm
  | .test => some .test

/-! ### Service valves (R71) -/

/-- The commands of the two service valves. -/
structure ValveCommands where
  apply : Bool
  release : Bool
  deriving DecidableEq, Repr

/-- Both valves de-energised. -/
def valvesClosed : ValveCommands := { apply := false, release := false }

/-- Table 4-2: the commands for a join, a reference and a pressure. -/
def valveCommands (j : Join) (ref : Option Nat) (p : Nat) : ValveCommands :=
  match j, ref with
  | .idleVent, _ => { apply := false, release := true }
  | .idleTrap, _ => valvesClosed
  | _, none => valvesClosed
  | .alarm, some t => if p + controlBand < t then { apply := true, release := false } else valvesClosed
  | _, some t =>
    if p + controlBand < t then { apply := true, release := false }
    else if t + controlBand < p then { apply := false, release := true }
    else valvesClosed

/-- The reference of the moment: the intermediate target of the in-flight step, or else the standing target (R71). -/
def Mod.reference (m : Mod) : Option Nat :=
  match m.inFlight with
  | some f => some f.intermediate
  | none => m.standing

/-- MOD sets the valve commands from its present mode and the latest pressure (R71). -/
def Mod.commandValves (m : Mod) : Mod :=
  let v := valveCommands m.join m.reference m.pMeas
  { m with applyCmd := v.apply, releaseCmd := v.release }

/-! ### Step execution -/

/-- The time allowed for a step from a start pressure (R79). -/
def timeAllowed (target rate start : Nat) : Nat :=
  if rate = 0 then 800 else distance target start * 1000 / rate + 500

/-- The in-flight record at a beginning or a retry from pressure `p`: start pressure, intermediate target, time allowed and
in-band timer (R79, R81). DESIGN CHOICE (log entry 35): a beginning or a restart is in band within 15 kPa of the final target,
as R79 says, under the ALARM join too. -/
def freshRun (st : Step) (p retry highest : Nat) : InFlight :=
  let near := decide (distance st.target p ≤ controlBand)
  { step := st
    start := p
    intermediate := if st.rate = 0 || near then st.target else p
    allowed := timeAllowed st.target st.rate p
    retry := retry
    inBand := if near then some 0 else none
    highest := highest
    elapsed := 0 }

/-- A step begins: its record is filled, the standing target cleared and the valves commanded (R79, R85). -/
def Mod.beginStep (st : Step) (m : Mod) : Mod :=
  ({ m with inFlight := some (freshRun st m.pMeas 0 m.pMeas), standing := none } : Mod).commandValves

/-- With no step in flight the oldest pending step, if there is one, begins (R75, R78). -/
def Mod.startNext (m : Mod) : Mod :=
  match m.inFlight, m.queue with
  | none, st :: rest => ({ m with queue := rest } : Mod).beginStep st
  | _, _ => m

/-- The report of the end of the in-flight step (R85). -/
def InFlight.ending (f : InFlight) (o : StepOutcome) (p : Nat) : StepEnd :=
  { outcome := o, source := f.step.source, target := f.step.target, clamped := f.step.clamped,
    unpark := f.step.unpark, pMeas := p, highest := f.highest, retry := f.retry }

/-- The queue after a step ended REACHED or UNREACHED: the next step begins, or the final target stands (R78, R85). -/
def Mod.moveOn (f : InFlight) (m : Mod) : Mod :=
  ({ m with inFlight := none, standing := some f.step.target } : Mod).startNext.commandValves

/-- The intermediate target moved at a chamber sample (R79): the start pressure plus the ramp toward the final target, no
further than it; a reference already at the final target stays there. -/
def movedReference (f : InFlight) : Nat :=
  let t := f.step.target
  let ramp := f.step.rate * f.elapsed / 1000
  if f.intermediate = t then t
  else if f.start ≤ t then min t (f.start + ramp)
  else max t (f.start - ramp)

/-- The in-band condition (R80): the reference is at the final target and the pressure within the band of it, under the ALARM
join at or above its lower edge. -/
def inBandNow (j : Join) (reference target p : Nat) : Bool :=
  decide (reference = target) &&
    (if j = .alarm then decide (target ≤ p + controlBand) else decide (distance target p ≤ controlBand))

/-- The in-flight record after the first three parts of an evaluation at pressure `p` (R80). -/
def evaluated (j : Join) (p : Nat) (f : InFlight) : InFlight :=
  let ref := movedReference f
  { f with
    highest := max f.highest p
    intermediate := ref
    inBand := if inBandNow j ref f.step.target p then some (f.inBand.getD 0) else none }

/-- What MOD holds after an operation, and the outcome it reports, if any. -/
structure ModResult where
  mod : Mod
  ended : Option StepEnd := none
  overrun : Bool := false
  deriving DecidableEq, Repr

/-- The evaluation at a valid chamber sample (R80 to R83): a time that has passed restarts the step or ends it UNREACHED, and
is taken over an in-band time that is complete; with no step in flight the valves are commanded alone. -/
def Mod.evaluate (m : Mod) : ModResult :=
  match m.inFlight with
  | none => { mod := m.commandValves }
  | some f0 =>
    let f := evaluated m.join m.pMeas f0
    if f.allowed ≤ f.elapsed then
      if f.retry < 2 then
        { mod := ({ m with inFlight := some (freshRun f.step m.pMeas (f.retry + 1) f.highest) } : Mod).commandValves }
      else { mod := m.moveOn f, ended := some (f.ending .unreached m.pMeas) }
    else if inBandTime ≤ f.inBand.getD 0 && f.inBand.isSome then
      { mod := m.moveOn f, ended := some (f.ending .reached m.pMeas) }
    else { mod := ({ m with inFlight := some f } : Mod).commandValves }

/-- A chamber sample out of range or a valve-driver event ends the in-flight step FAULT: both service valves closed, nothing
standing, the queue not started (R84). With no step in flight nothing ends. -/
def Mod.faultStep (m : Mod) : ModResult :=
  match m.inFlight with
  | none => { mod := m }
  | some f =>
    { mod := { m with inFlight := none, standing := none, applyCmd := false, releaseCmd := false }
      ended := some (f.ending .fault m.pMeas) }

/-! ### Join changes (R74) -/

/-- STC names a join. A different one ends the in-flight step SUPERSEDED, discards the pending steps, clears the standing
target and commands the valves; the one in force changes nothing. -/
def Mod.joinTo (j : Join) (m : Mod) : ModResult :=
  if j = m.join then { mod := m }
  else
    { mod := ({ m with join := j, queue := [], inFlight := none, standing := none } : Mod).commandValves
      ended := m.inFlight.map (fun f => f.ending .superseded m.pMeas) }

/-! ### Appends (R75 to R77) -/

/-- A step clamped to the top pressure in force (R75). -/
def clampStep (pTop : Nat) (st : Step) : Step :=
  if pTop < st.target then { st with target := pTop, clamped := true } else st

/-- A PLANNER step that passed the test is placed: pending steps removed, a lower in-flight PLANNER step superseded (R76). -/
def Mod.placePlanner (st : Step) (m : Mod) : ModResult :=
  match m.inFlight with
  | none => { mod := ({ m with queue := [] } : Mod).beginStep st }
  | some f =>
    if f.step.source = .planner && f.step.target < st.target then
      { mod := ({ m with queue := [] } : Mod).beginStep st, ended := some (f.ending .superseded m.pMeas) }
    else { mod := { m with queue := [st] } }

/-- RELEASE, ALARM and TEST steps that passed the test are placed behind the pending steps, all or none (R77). -/
def Mod.placeBehind (steps : List Step) (m : Mod) : ModResult :=
  if m.queue.length + steps.length ≤ queueLimit then
    { mod := ({ m with queue := m.queue ++ steps } : Mod).startNext }
  else { mod := m, overrun := true }

/-- An append of one source (R75): dropped and counted when the source is not joined, else clamped and placed. -/
def Mod.append (pTop : Nat) (src : Source) (steps : List Step) (m : Mod) : ModResult :=
  if m.join.source = some src then
    match src, steps.map (clampStep pTop) with
    | .planner, st :: _ => m.placePlanner st
    | _, sts => m.placeBehind sts
  else { mod := { m with dropped := satInc 65535 m.dropped } }

/-! ### Park valve and spring counting (R86 to R88) -/

/-- The delay of the spring-apply timer at a de-energising (R87). -/
def springDelay (a : AxleParams) (now : Word32) (last : Option Energising) : Nat :=
  match last with
  | some e =>
    let since := timeSince now e.time
    if e.counted && since < a.springRelease then min a.springApply since else a.springApply
  | none => a.springApply

/-- The park command changed to energised (R88). -/
def Mod.energisePark (now : Word32) (m : Mod) : Mod :=
  { m with parkCmd := true, lastEnergising := some { time := now, counted := m.springsCounted },
           springsCounted := false, springTimer := none }

/-- The park command changed to de-energised (R87). -/
def Mod.deEnergisePark (axle : Option AxleParams) (now : Word32) (m : Mod) : Mod :=
  { m with parkCmd := false, springTimer := axle.map (fun a => springDelay a now m.lastEnergising) }

/-- STC orders the park valve (R86); the command already in force changes nothing. -/
def Mod.orderPark (on : Bool) (axle : Option AxleParams) (now : Word32) (m : Mod) : Mod :=
  if on = m.parkCmd then m
  else if on then m.energisePark now
  else m.deEnergisePark axle now

/-- The axle parameters become valid (R87): the springs are counted at once when the spring-apply time has passed since reset
release, and otherwise when it has. DESIGN CHOICE (log entry 36): the spring-apply timer runs meanwhile with the time left. -/
def Mod.springsAtStart (spring : Bool) (a : AxleParams) (now : Word32) (m : Mod) : Mod :=
  if m.parkCmd then m
  else if a.springApply ≤ now.toNat then { m with springsCounted := spring }
  else { m with springTimer := some (a.springApply - now.toNat) }

/-- The spring-apply timer expires (R87). -/
def Mod.springsApplied (spring : Bool) (m : Mod) : Mod :=
  { m with springTimer := none, springsCounted := m.springsCounted || (spring && !m.parkCmd) }

/-! ### The operations at the station -/

/-- A result of MOD taken into the state: a reported outcome goes to the agenda (R85), an UNREACHED raises STEP_UNREACHED
(R81) and an overrun QUEUE_OVERRUN (R77). -/
def takeModResult (r : ModResult) (s : State) : State :=
  let s1 : State := { s with mod := r.mod, agenda := { s.agenda with ends := s.agenda.ends ++ r.ended.toList } }
  let s2 := if r.ended.map StepEnd.outcome = some .unreached then raiseFault .stepUnreached s1 else s1
  if r.overrun then raiseFault .queueOverrun s2 else s2

/-- STC joins a source or an idle mode (R74). A change leaves no step in flight and no valve energised to apply, so the limit
timer stops with it (R64). -/
def joinTo (j : Join) (s : State) : State :=
  takeModResult (s.mod.joinTo j)
    { s with hpl := { s.hpl with limitTimer := if j = s.mod.join then s.hpl.limitTimer else none } }

/-- Steps of one source are appended against the P_top of the plan record (R75). -/
def appendSteps (src : Source) (steps : List Step) (s : State) : State :=
  takeModResult (s.mod.append s.hpl.pTop src steps) s

/-- STC orders the park valve; a change of SPRINGS_COUNTED is a plan event (R86, R53). -/
def orderPark (on : Bool) (s : State) : State :=
  let m := s.mod.orderPark on s.suc.axle s.now
  { s with mod := m
           agenda := { s.agenda with plan := s.agenda.plan || (m.springsCounted != s.mod.springsCounted) } }

/-- A release profile: two steps down from the present pressure, the first at the rate given (R110, R126). -/
def releaseProfile (p firstRate : Nat) : List Step :=
  [{ target := p / 2, rate := firstRate, source := .release }, { target := 0, rate := 1000, source := .release }]

end Sys2Proof.Machine
end

