-- ==== Sys2Proof/Machine/PeerTable.lean ====
section
/-! DEFINITION. The peer table (Chapter 2): the own entry (R25), the derived values (R34 to R39), their recomputation and the
reports that follow it (R42). -/

namespace Sys2Proof.Machine

/-! ### Membership -/

/-- An entry is a pool member (R34). -/
def Entry.inPool (e : Entry) : Bool := e.isFresh && e.state.inPool && !e.flags.lifted && !e.leaving

/-- The pool (R34). -/
def poolOf (t : Table Entry) : List StationNo := allStations.filter (fun n => (t.get n).inPool)

/-- A pool member taken as it stands: a peer whose LIMITED flag is set (R35). -/
def isFixed (self : StationNo) (t : Table Entry) (n : StationNo) : Bool :=
  decide (n ≠ self) && (t.get n).flags.limited

/-- The fixed set (R35). -/
def fixedOf (self : StationNo) (t : Table Entry) : List StationNo := (poolOf t).filter (isFixed self t)

/-- The flexible set: the rest of the pool (R35). -/
def flexibleOf (self : StationNo) (t : Table Entry) : List StationNo := (poolOf t).filter (fun n => !isFixed self t n)

/-- The creep-event count an entry counts with: its own while FRESH, otherwise none (R37). -/
def Entry.freshCreep (e : Entry) : Nat := if e.isFresh then e.creep else 0

/-- E_vehicle: the greatest creep-event count among FRESH entries, the own included (R37). -/
def eVehicleOf (t : Table Entry) : Nat := allStations.foldl (fun acc n => max acc (t.get n).freshCreep) 0

/-- A FRESH peer entry shows state ALARM. -/
def Entry.showsAlarm (e : Entry) : Bool := e.isFresh && decide (e.state = .alarm)

/-- A FRESH peer entry shows RELEASE_ABORT. -/
def Entry.showsAbort (e : Entry) : Bool := e.isFresh && e.flags.releaseAbort

/-- A FRESH entry shows LEAVING. -/
def Entry.showsLeaving (e : Entry) : Bool := e.isFresh && decide (e.state = .leaving)

/-- Some peer's entry has a property. -/
def anyPeer (self : StationNo) (t : Table Entry) (p : Entry → Bool) : Bool :=
  allStations.any (fun n => decide (n ≠ self) && p (t.get n))

/-- The raw condition of vehicle-stationary: the own STANDSTILL flag, and that of every FRESH peer (R36). -/
def rawStationary (self : StationNo) (t : Table Entry) : Bool :=
  (t.get self).flags.standstill && !anyPeer self t (fun e => e.isFresh && !e.flags.standstill)

/-- A FRESH peer is counted as leaving (R105). -/
def Entry.countedLeaving (e : Entry) : Bool := e.isFresh && (decide (e.state = .leaving) || e.leaving)

/-- Some FRESH peer is counted as leaving (R105). -/
def peerLeaving (s : State) : Bool := anyPeer (own s) s.ptb.entries Entry.countedLeaving

/-! ### The own entry (R25) -/

/-- The own mass contribution (R50): the load average while LOAD_VALID is set, else the rated axle load, and 0 before the axle
parameters are valid. -/
def massContribution (s : State) : Nat :=
  if s.glu.loadValid then s.glu.loadAverage.getD 0 else (s.suc.axle.map AxleParams.ratedLoad).getD 0

/-- The share announced in a state (Table 3-3): as computed, or locked in RELEASING, and 0 elsewhere. -/
def announcedShare (s : State) : Nat :=
  if s.stc.state.sharing || decide (s.stc.state = .releasing) then s.hpl.share else 0

/-- The own entry as the own values stand (R25). -/
def ownEntry (s : State) : Entry :=
  { presence := .fresh
    role := s.suc.role
    spring := s.suc.spring
    state := s.stc.state
    flags := ownFlags s
    load := massContribution s
    loadValid := s.glu.loadValid
    grade := if s.glu.gradeValid then s.glu.ownGrade else none
    capacity := s.hpl.c
    share := announcedShare s
    achieved := s.hpl.a
    creep := s.crm.eOwn
    sinceStatus := 0
    deadline := none
    leaving := false }

/-! ### Recomputation (R42) -/

/-- The derived values of a table of entries, with the vehicle-stationary timer started, stopped or left (R36). -/
def Ptb.derive (self : StationNo) (t : Table Entry) (p : Ptb) : Ptb :=
  let raw := rawStationary self t
  { p with
    entries := t
    pool := poolOf t
    fixedSet := fixedOf self t
    flexibleSet := flexibleOf self t
    vehicleStationary := p.vehicleStationary && raw
    stationaryTimer := timerWhile (raw && !p.vehicleStationary) 500 p.stationaryTimer
    eVehicle := eVehicleOf t
    alarmPeer := anyPeer self t Entry.showsAlarm
    abortPeer := anyPeer self t Entry.showsAbort }

/-- The validity flags of GLU as they stand (R46, R49). -/
def refreshValidity (s : State) : State :=
  let g := gradeValidOf s
  let l := loadValidOf s
  { s with
    glu := { s.glu with gradeValid := g, loadValid := l }
    agenda := { s.agenda with plan := s.agenda.plan || (g != s.glu.gradeValid) || (l != s.glu.loadValid) } }

/-- The acknowledged peers less those that no longer show ALARM (R143). -/
def keptAcknowledged (t : Table Entry) (a : Table Bool) : Table Bool :=
  allStations.foldl (fun acc n => acc.set n (a.get n && (t.get n).showsAlarm)) a

/-- The derived values of two tables that HPL reads differ: pool, sets or E_vehicle (R42). -/
def planValuesDiffer (p q : Ptb) : Bool :=
  decide (p.pool ≠ q.pool) || decide (p.fixedSet ≠ q.fixedSet) || decide (p.flexibleSet ≠ q.flexibleSet)
    || decide (p.eVehicle ≠ q.eVehicle)

/-- The derived values of two tables that enter an exit of a state or a test of HOE differ (R42). -/
def exitValuesDiffer (p q : Ptb) : Bool :=
  decide (p.pool ≠ q.pool) || (p.vehicleStationary != q.vehicleStationary) || (p.alarmPeer != q.alarmPeer)
    || (p.abortPeer != q.abortPeer)

/-- An entry of the pool, the own or a peer's, was written with another load, grade, capacity, achieved force, state or flags: a
plan event (R34, R42). -/
def poolEntryChanged (x y : Entry) : Bool :=
  y.inPool
    && (decide (x.load ≠ y.load) || decide (x.grade ≠ y.grade) || decide (x.capacity ≠ y.capacity)
      || decide (x.achieved ≠ y.achieved) || decide (x.state ≠ y.state) || decide (x.flags ≠ y.flags))

/-- PTB rewrites the own entry, recomputes the derived values, and reports what changed (R25, R42). -/
def refreshTable (s : State) : State :=
  let e := ownEntry s
  let p := s.ptb.derive (own s) (s.ptb.entries.set (own s) e)
  { s with
    ptb := p
    alarm := { s.alarm with ackPeers := keptAcknowledged p.entries s.alarm.ackPeers }
    agenda := { s.agenda with
      plan := s.agenda.plan || planValuesDiffer s.ptb p || poolEntryChanged (entryOf s (own s)) e
      exits := s.agenda.exits || exitValuesDiffer s.ptb p
      success := s.agenda.success || exitValuesDiffer s.ptb p } }

/-- The own values, the own entry and the derived values brought into agreement. -/
def sync (s : State) : State := refreshTable (refreshValidity s)

/-- The alarm peers STC reads: FRESH peers that show ALARM and are not acknowledged (R143), lowest first. -/
def unacknowledgedAlarms (s : State) : List StationNo :=
  (peersOf s).filter (fun n => (entryOf s n).showsAlarm && !s.alarm.ackPeers.get n)

/-! ### Writing an entry -/

/-- An entry rewritten in place, without recomputation. -/
def setEntry (n : StationNo) (e : Entry) (s : State) : State :=
  { s with ptb := { s.ptb with entries := s.ptb.entries.set n e } }

/-- A blank entry: the reset values of a peer entry (R28). -/
def blankEntry : Entry := {}

end Sys2Proof.Machine
end

