-- ==== Sys2Proof/Machine/Grade.lean ====
section
/-! DEFINITION. The grade and load unit (paras 3.1 to 3.3): the two windows and their averages, the median of the grades
(R47) and the plausibility comparison (R48). -/

namespace Sys2Proof.Machine

/-- The places of the accelerometer window (R44). -/
def accPlaces : Nat := 8

/-- The places of the load window (R49). -/
def loadPlaces : Nat := 16

/-- A sample joins a window; a full window loses its oldest (R44, R49). -/
def enterWindow {α : Type} (places : Nat) (a : α) (w : List α) : List α :=
  (if places ≤ w.length then w.drop (w.length + 1 - places) else w) ++ [a]

/-- The average of a full accelerometer window, truncated toward zero (R44). -/
def accAverageOf (w : List Int) : Option Int :=
  if w.length = accPlaces then some (w.sum.tdiv (accPlaces : Int)) else none

/-- The average of a full load window, truncated (R49). -/
def loadAverageOf (w : List Nat) : Option Nat :=
  if w.length = loadPlaces then some (w.sum / loadPlaces) else none

/-- GLU with an accelerometer window, its average and the own grade formed from it (R44). -/
def Glu.withAccWindow (w : List Int) (g : Glu) : Glu :=
  { g with accWindow := w, accAverage := accAverageOf w, ownGrade := (accAverageOf w).map (clampInt (-600) 600) }

/-- The own STANDSTILL flag clears: the window empties (R44). -/
def Glu.emptyAcc (g : Glu) : Glu := g.withAccWindow []

/-- An answered accelerometer reading (R44): taken as ±2000 at most, corrected by the mounting offset, and entered while the
standstill flag is set and the axle parameters are valid (R43). -/
def Glu.answered (reading : Int) (standstill : Bool) (axle : Option AxleParams) (g : Glu) : Glu :=
  match axle with
  | some a =>
    if standstill then
      { g.withAccWindow (enterWindow accPlaces (clampInt (-2000) 2000 reading - a.accOffset) g.accWindow) with
        accAnswering := true }
    else { g with accAnswering := true }
  | none => { g with accAnswering := true }

/-- An unanswered accelerometer read (R45). -/
def Glu.notAnswered (g : Glu) : Glu := { g.emptyAcc with accAnswering := false }

/-- The converted load of a raw value (R49). -/
def convertedLoad (raw : BitVec 12) (a : AxleParams) : Nat :=
  (clampInt 0 4000 (((raw.toNat * a.loadScale / 256 : Nat) : Int) + a.loadOffset)).toNat

/-- GLU with a load window and its average (R49). -/
def Glu.withLoadWindow (w : List Nat) (g : Glu) : Glu := { g with loadWindow := w, loadAverage := loadAverageOf w }

/-- A load sample (R49): one at either end of the range is not entered, and empties the window when LOAD_SENSOR was clear; any
other is converted and entered once the axle parameters are valid. -/
def Glu.loadSample (raw : BitVec 12) (sensorSet : Bool) (axle : Option AxleParams) (g : Glu) : Glu :=
  let g1 : Glu := { g with lastLoadRaw := some raw }
  if loadRawBad raw then (if sensorSet then g1 else g1.withLoadWindow [])
  else
    match axle with
    | some a => g1.withLoadWindow (enterWindow loadPlaces (convertedLoad raw a) g.loadWindow)
    | none => g1

/-! ### The median of grades (R47) -/

/-- The grades sorted by signed value. -/
def sortedGrades (l : List Int) : List Int := l.insertionSort (fun a b => a ≤ b)

/-- Of the two middle values, the one of greater magnitude, and of two opposite ones the positive (R47). -/
def steeper (a b : Int) : Int := if b.natAbs < a.natAbs then a else b

/-- The median of a list of grades (R47); none when it is empty. -/
def medianGrade (l : List Int) : Option Int :=
  let w := sortedGrades l
  let n := w.length
  if n = 0 then none
  else if n % 2 = 1 then w[n / 2]?
  else
    match w[n / 2 - 1]?, w[n / 2]? with
    | some a, some b => some (steeper a b)
    | _, _ => none

/-- The grade an entry contributes: that of a FRESH entry (R47). -/
def Entry.validGrade (e : Entry) : Option Int := if e.isFresh then e.grade else none

/-- The valid grades of the peers (R48). -/
def peerGrades (s : State) : List Int := (peersOf s).filterMap (fun n => (entryOf s n).validGrade)

/-- The valid grades of all FRESH entries, the own included (R47). -/
def allGrades (s : State) : List Int := allStations.filterMap (fun n => (entryOf s n).validGrade)

/-- The fallback of R47 with no valid grade: the steepest slope in the direction of the last used G. -/
def fallbackGrade (lastG : Int) : Int := if 0 ≤ lastG then 600 else -600

/-- The disagreement condition of R48. -/
def gradeDisagrees (s : State) : Bool :=
  s.glu.gradeValid && decide (2 ≤ (peerGrades s).length)
    && (match s.glu.ownGrade, medianGrade (peerGrades s) with
        | some g, some m => decide (50 < (g - m).natAbs)
        | _, _ => false)

/-- GLU compares the own grade with the peers' at a plan event (R48). -/
def comparePlausibility (s : State) : State :=
  { s with glu := { s.glu with plausibilityTimer := timerWhile (gradeDisagrees s) 2000 s.glu.plausibilityTimer } }

/-- Friction load N_fric (R50). -/
def frictionLoad (s : State) (a : AxleParams) : Nat :=
  if s.glu.loadValid then s.glu.loadAverage.getD 0 else a.ratedLoad / 2

end Sys2Proof.Machine
end

