-- ==== Sys2Proof/Machine/Planner.lean ====
section
/-! DEFINITION. The hold planner (Chapter 3): the stages of the computation, each a function of its own, the computation of
each station state (R52), LIMITED and the limit timer (R64), and the submission decision (R66, R67). -/

namespace Sys2Proof.Machine

/-! ### Demand (R47, R54, R55, R60) -/

/-- G, the grade used (R47); in isolated mode from the own grade alone (R60). -/
def gradeUsed (s : State) : Int :=
  if isolatedMode s then
    (if s.glu.gradeValid then s.glu.ownGrade else none).getD (fallbackGrade s.hpl.lastG)
  else (medianGrade (allGrades s)).getD (fallbackGrade s.hpl.lastG)

/-- The own axle is counted in the mass and in the flexible set: as a pool member, or in ALARM (R52). -/
def ownCounted (s : State) : Bool := s.ptb.flexibleSet.contains (own s) || decide (s.stc.state = .alarm)

/-- M, the mass of the pool (R54); in isolated mode the rated gross mass (R60). -/
def poolMass (s : State) (a : AxleParams) : Nat :=
  if isolatedMode s then a.ratedGross
  else
    ((s.ptb.pool.filter (fun n => decide (n ≠ own s))).map (fun n => (entryOf s n).load)).sum
      + (if s.ptb.pool.contains (own s) || decide (s.stc.state = .alarm) then massContribution s else 0)

/-- K, the margin factor (R54). -/
def marginFactor (s : State) : Nat :=
  min 160 (s.suc.vehicle.k0 + (if s.ptb.drum.rotating then s.suc.vehicle.kd else 0) + 8 * min 4 s.ptb.eVehicle)

/-- Ge, the effective grade (R54). -/
def effectiveGrade (g : Int) (gMin : Nat) : Nat := max g.natAbs gMin

/-- F_req, the required force (R55). -/
def requiredForce (m ge k : Nat) : Nat := ceilDiv (m * ge * k) 64000

/-- F_nom, the nominal grade force (R55). -/
def nominalForce (m : Nat) (g : Int) : Nat := ceilDiv (m * g.natAbs) 1000

/-! ### Capacity (R56, R57) -/

/-- P_top, the top pressure (R56). -/
def topPressure (s : State) (a : AxleParams) : Nat :=
  if s.stc.faults.supplySensor then a.pMax / 2 else min a.pMax (s.mod.pSup - 30)

/-- The pressure the brake capacity is formed from (R57). -/
def capacityPressure (p : Plan) (pTop : Nat) : Nat := if p.limited then min p.bestAchieved pTop else pTop

/-- The friction coefficient of a surface class, per mille (R57). -/
def Surface.friction : Surface → Nat
  | .dry => 600
  | .wet => 400
  | .loose => 250

/-- L, the friction limit (R57). -/
def frictionLimit (s : State) (a : AxleParams) : Nat := frictionLoad s a * (cabNow s).surface.friction / 1000

/-- Sc, the spring force counted (R57). -/
def springsCountedForce (s : State) (a : AxleParams) : Nat :=
  if s.suc.spring && s.mod.springsCounted then a.springForce else 0

/-- The capacity stage: P_top, Cb, L, Sc and C (R56, R57). -/
def capacityStage (s : State) (a : AxleParams) (p : Plan) : Plan :=
  let pTop := topPressure s a
  let cb := capacityPressure p pTop * a.brakeGain / 100
  let l := frictionLimit s a
  let sc := springsCountedForce s a
  { p with pTop := pTop, cb := cb, l := l, sc := sc, c := min (cb + sc) l }

/-- C for the own term and the own share: C_u while the un-park mark is set (R57, R59). -/
def shareCapacity (s : State) (p : Plan) : Nat := if s.stc.unparkMark then min p.cb p.l else p.c

/-! ### Share (R58 to R61) -/

/-- R, the remainder after the fixed set (R58). -/
def remainderOf (s : State) (fReq : Nat) : Nat :=
  fReq - (s.ptb.fixedSet.map (fun n => (entryOf s n).achieved)).sum

/-- The pool capacity: the announced capacities of the flexible peers, and the own C where the own axle is counted (R58). -/
def poolCapacityOf (s : State) (c : Nat) : Nat :=
  ((s.ptb.flexibleSet.filter (fun n => decide (n ≠ own s))).map (fun n => (entryOf s n).capacity)).sum
    + (if ownCounted s then c else 0)

/-- The table of R59: the share from the remainder, the pool capacity and C. -/
def shareOf (counted : Bool) (r poolCap c : Nat) : Nat :=
  if !counted then 0
  else if poolCap = 0 then 0
  else if poolCap ≤ r then c
  else ceilDiv (r * c) poolCap

/-- The table of R59: SHORTFALL. -/
def shortfallOf (counted : Bool) (r poolCap : Nat) : Bool :=
  counted && decide (poolCap ≠ 0) && decide (poolCap ≤ r)

/-- The share stage (R58 to R61): isolated, pooled, or 0 outside the states of R59. In isolated mode R and the pool capacity
are not used and keep their values. -/
def shareStage (s : State) (p : Plan) : Plan :=
  let c := shareCapacity s p
  if isolatedMode s then { p with share := min c p.fReq }
  else
    let r := remainderOf s p.fReq
    let pc := poolCapacityOf s c
    { p with r := r, poolCapacity := pc,
             share := if s.stc.state.sharing then shareOf (ownCounted s) r pc c else 0 }

/-- SHORTFALL as the computation of a plan finds it (R59, R60, R61). -/
def shortfallFound (s : State) (p : Plan) : Bool :=
  if isolatedMode s then decide (p.c < p.fReq) && decide (p.c ≠ 0)
  else s.stc.state.sharing && shortfallOf (ownCounted s) p.r p.poolCapacity

/-! ### Target and achieved force (R62, R63) -/

/-- P_floor, the lowest nonzero target pressure (R62). -/
def pFloor : Nat := 50

/-- The first two steps of R62: the pressure of a demand, raised to P_floor when it is not 0. -/
def demandPressure (share sc gain : Nat) : Nat :=
  let p := ceilDiv ((share - sc) * 100) gain
  if p = 0 then 0 else max p pFloor

/-- The target stage: P_t and the clamped mark (R62). -/
def targetStage (s : State) (a : AxleParams) (p : Plan) : Plan :=
  let want := demandPressure p.share (if s.stc.unparkMark then 0 else p.sc) a.brakeGain
  { p with pT := min want p.pTop, clamped := decide (p.pTop < want) }

/-- A, the achieved force at a pressure (R63). -/
def achievedForce (l sc gain pMeas : Nat) : Nat := min l (pMeas * gain / 100 + sc)

/-- The achieved-force stage (R63). -/
def achievedStage (s : State) (a : AxleParams) (p : Plan) : Plan :=
  { p with a := achievedForce p.l p.sc a.brakeGain s.mod.pMeas }

/-! ### The spring capacity (R65) -/

/-- The spring capacity of the pool (R65); in isolated mode the own term alone. -/
def springCapacityOf (s : State) (a : AxleParams) (l : Nat) : Nat :=
  (if s.suc.spring then min a.springForce l else 0)
    + (if isolatedMode s then 0
       else ((s.ptb.pool.filter (fun n => decide (n ≠ own s) && (entryOf s n).spring)).map
              (fun n => (entryOf s n).capacity)).sum)

/-- The spring stage, made in SECURED (R65). -/
def springStage (s : State) (a : AxleParams) (p : Plan) : Plan :=
  if s.stc.state = .secured then { p with springCapacity := springCapacityOf s a p.l } else p

/-! ### The computation of each state (R52) -/

/-- The demand stage: G, M, K, Ge, F_req and F_nom (R54, R55). -/
def demandStage (s : State) (a : AxleParams) (p : Plan) : Plan :=
  let g := gradeUsed s
  let m := poolMass s a
  let k := marginFactor s
  let ge := effectiveGrade g s.suc.vehicle.gMin
  { p with g := some g, lastG := g, m := m, k := k, ge := ge,
           fReq := requiredForce m ge k, fNom := nominalForce m g }

/-- A full computation, its stages in the order of paras 3.5 to 3.8 (R53). -/
def fullPlan (s : State) (a : AxleParams) : Plan :=
  springStage s a (achievedStage s a (targetStage s a (shareStage s (capacityStage s a (demandStage s a s.hpl)))))

/-- The computation outside a hold: G for the last used G, and capacity and achieved force once the axle parameters are valid;
the share is 0 (Table 3-3). -/
def outsidePlan (s : State) : Plan :=
  let g := gradeUsed s
  let p : Plan := { s.hpl with g := some g, lastG := g, share := 0 }
  match s.suc.axle with
  | some a => achievedStage s a (capacityStage s a p)
  | none => p

/-- The plan record after one computation for the present state (R52): full, outside a hold, the achieved force alone under
the plan lock, or none in FAILED. -/
def computedPlan (s : State) : Plan :=
  match s.stc.state with
  | .offline | .free | .service => outsidePlan s
  | .standstill | .holding | .secured | .leaving | .alarm => (s.suc.axle.map (fullPlan s)).getD s.hpl
  | .releasing => (s.suc.axle.map (fun a => achievedStage s a s.hpl)).getD s.hpl
  | .failed => s.hpl

/-- The computation is a full one (Table 3-3). -/
def fullState (st : StationState) : Bool := st.sharing || decide (st = .leaving)

/-- The current conditions as the computation finds them: SHORTFALL in the states of R52, SPRING_SHORTFALL in SECURED (R65);
HPL sets or clears them through STC (R21). -/
def currentConditions (s : State) : State :=
  let s1 := if s.stc.state.sharing then putFault .shortfall (shortfallFound s s.hpl) s else s
  if s1.stc.state = .secured then putFault .springShortfall (decide (s1.hpl.springCapacity < s1.hpl.fReq)) s1 else s1

/-- One computation with its current conditions; a change of SHORTFALL calls for an immediate STATUS (R53, R156). -/
def compute (s : State) : State :=
  let s1 := currentConditions { s with hpl := computedPlan s }
  callStatusIf (s1.stc.faults.shortfall != s.stc.faults.shortfall) s1

/-! ### LIMITED (R64) -/

/-- The conditions the limit timer runs on (R64): a step in flight, the apply valve energised, and the pressure below the
present target less 30 kPa. -/
def limitCondition (m : Mod) : Bool :=
  match m.inFlight with
  | some f => m.applyCmd && decide (m.pMeas + 30 < f.intermediate)
  | none => false

/-- HPL sets LIMITED and records the best achieved pressure (R64); a change calls for an immediate STATUS (R156). -/
def setLimited (best : Nat) (s : State) : State :=
  callStatusIf (!s.hpl.limited)
    { s with hpl := { s.hpl with limited := true, bestAchieved := best, limitTimer := none } }

/-- HPL clears LIMITED (R64). -/
def clearLimited (s : State) : State :=
  callStatusIf s.hpl.limited { s with hpl := { s.hpl with limited := false } }

/-- HPL takes a step outcome (R64): UNREACHED sets LIMITED, and a REACHED more than 20 kPa above the best achieved pressure
clears it. -/
def limitedByEnd (e : StepEnd) (s : State) : State :=
  match e.outcome with
  | .unreached => setLimited e.highest s
  | .reached => if s.hpl.limited && decide (s.hpl.bestAchieved + 20 < e.pMeas) then clearLimited s else s
  | .fault | .superseded => s

/-! ### Submission (R66, R67) -/

/-- HPL submits the target of the plan as one PLANNER step and records it (R62, R66). DESIGN CHOICE (log entry 46): a submission at
once by R67 (un-park start, lapse or UNREACHED) stops a running decrease wait, as a rise does. -/
def submitTarget (s : State) : State :=
  appendSteps .planner
    [{ target := s.hpl.pT, rate := 0, source := .planner, clamped := s.hpl.clamped, unpark := s.stc.unparkMark }]
    { s with hpl := { s.hpl with lastSubmitted := s.hpl.pT, decreaseWait := none } }

/-- A target is 10 kPa or more above the last submitted one (R66). -/
def targetRises (p : Plan) : Bool := decide (p.lastSubmitted + 10 ≤ p.pT)

/-- A target is 40 kPa or more below the last submitted one (R66). -/
def targetFalls (p : Plan) : Bool := decide (p.pT + 40 ≤ p.lastSubmitted)

/-- The decrease wait after a computation that does not submit (R66): started by a fall, kept with its lowest target, or
cancelled by a rise above that or a fall that is no longer one; a cancelling computation may start a new wait. -/
def waitAfter (p : Plan) : Option DecreaseWait :=
  let fresh : Option DecreaseWait :=
    if targetFalls p then some { remaining := 1000, start := p.pT, lowest := p.pT } else none
  match p.decreaseWait with
  | none => fresh
  | some w =>
    if w.lowest + 10 ≤ p.pT || !targetFalls p then fresh
    else some { w with lowest := min w.lowest p.pT }

/-- The submission decision after a computation (R66), or the submission at once of R67. -/
def submissionDecision (force : Bool) (s : State) : State :=
  if s.stc.state = .holding || s.stc.state = .secured then
    if force || targetRises s.hpl then submitTarget s
    else { s with hpl := { s.hpl with decreaseWait := waitAfter s.hpl } }
  else s

end Sys2Proof.Machine
end

