-- ==== Sys2Proof/Machine/Creep.lean ====
section
/-! DEFINITION. The creep and slip monitor (Chapter 5): wheel counts and distance, the standstill flag, the watch, creep and
rollaway by distance, and slip. -/

namespace Sys2Proof.Machine

/-- The limit of a wheel count (R90). -/
def countLimit : Int := 32767

/-- The slip threshold, in mg (R101). -/
def slipThreshold : Nat := 40

/-- The run of samples over the threshold that counts a creep event (R101). -/
def slipRunLimit : Nat := 25

/-- The accumulated samples over the threshold that make a rollaway (R102). -/
def slipTotal : Nat := 100

/-- A wheel count after a pulse (R90). -/
def countAfter (dir : Direction) (c : Int) : Int :=
  match dir with
  | .forward => if countLimit ≤ c then c else c + 1
  | .reverse => if c ≤ -countLimit then c else c - 1

/-- The axle count: the wheel count of greater magnitude, the left one on a tie (R91). -/
def axleCount (left right : Int) : Int := if left.natAbs < right.natAbs then right else left

/-- The axle distance, truncated toward zero; 0 until the axle parameters are valid (R91). -/
def axleDistance (count : Int) (axle : Option AxleParams) : Int :=
  match axle with
  | some a => (count * (a.circumference : Int)).tdiv (a.teeth : Int)
  | none => 0

/-- A pulse: the count, the axle count, d, and the standstill flag and its timer (R90 to R92). -/
def Crm.pulse (w : Wheel) (dir : Direction) (axle : Option AxleParams) (c : Crm) : Crm :=
  let left := if w = .left then countAfter dir c.left else c.left
  let right := if w = .right then countAfter dir c.right else c.right
  { c with left := left, right := right, axle := axleCount left right,
           d := axleDistance (axleCount left right) axle,
           standstill := false, standstillTimer := some 500 }

/-! ### The watch (R93, R94, R100) -/

/-- A new watch begins from the present d, with the accelerometer average of the moment as its reference (R93, R100). -/
def Crm.beginWatch (average : Option Int) (c : Crm) : Crm :=
  { c with watch := true, rebase := c.d, rollBase := c.d, slipAccumulated := 0, slipRun := 0, slipReference := average }

/-- The watch ends (R93). -/
def Crm.endWatch (c : Crm) : Crm := { c with watch := false, slipRun := 0 }

/-- The counts, d and E_own are zeroed at a hold entry (R94). -/
def Crm.zero (c : Crm) : Crm := { c with left := 0, right := 0, axle := 0, d := 0, eOwn := 0 }

/-- CRM at a change of station state (R93, R94). -/
def Crm.enter (t : StationState) (holdEntry : Bool) (average : Option Int) (c : Crm) : Crm :=
  let c1 := if holdEntry then c.zero else c
  if t.monitored then (if c1.watch then c1 else c1.beginWatch average)
  else if c1.watch then c1.endWatch else c1

/-- E_own raised by one event, unless it is already 7 (R98). -/
def Crm.countEvent (c : Crm) : Crm := { c with eOwn := satInc 7 c.eOwn }

/-! ### Creep and rollaway by distance (R95 to R97) -/

/-- The downhill direction of a grade (R95). -/
def downhillOf (g : Option Int) (gMin : Nat) : Downhill :=
  match g with
  | some x => if (gMin : Int) < x then .reverse else if x < -(gMin : Int) then .forward else .either
  | none => .either

/-- Downhill travel from a base (R95). -/
def downhillTravel (dir : Downhill) (base d : Int) : Nat :=
  match dir with
  | .reverse => (base - d).toNat
  | .forward => (d - base).toNat
  | .either => (d - base).natAbs

/-- A pulse has moved d a creep threshold from the rebase during a watch (R96). -/
def Crm.creeps (threshold : Nat) (c : Crm) : Bool := c.watch && decide (threshold ≤ (c.d - c.rebase).natAbs)

/-- The creep test after a pulse: one event at most, and the rebase follows d (R96). -/
def Crm.creepTest (threshold : Nat) (c : Crm) : Crm :=
  if c.creeps threshold then { c.countEvent with rebase := c.d } else c

/-- The downhill travel from the rollaway base (R97). -/
def Crm.travel (c : Crm) : Nat := downhillTravel c.downhill c.rollBase c.d

/-- The watch finds a rollaway by distance (R97). -/
def Crm.rolls (threshold : Nat) (c : Crm) : Bool := c.watch && decide (threshold ≤ c.travel)

/-- The rollaway report of CRM: the travel saturated at 65535, and G as used (R97, R102). -/
def rollawayReport (reason : AlarmReason) (s : State) : Rollaway :=
  { reason := reason, travel := min 65535 s.crm.travel, grade := s.hpl.g.getD s.hpl.lastG }

/-- CRM reports a rollaway to STC. -/
def reportRollaway (reason : AlarmReason) (s : State) : State :=
  { s with agenda := { s.agenda with rollaways := s.agenda.rollaways ++ [rollawayReport reason s] } }

/-- The rollaway test of R97. -/
def rollawayTest (s : State) : State :=
  if s.crm.rolls s.suc.vehicle.rollawayThreshold then reportRollaway .distance s else s

/-- CRM forms the downhill direction again; a change is followed by the rollaway test while the watch is set (R95), and
reported to RSQ (R103). -/
def formDownhill (s : State) : State :=
  let dir := downhillOf s.hpl.g s.suc.vehicle.gMin
  if dir = s.crm.downhill then s
  else
    rollawayTest { s with crm := { s.crm with downhill := dir }, agenda := { s.agenda with abortTest := true } }

/-- A creep event asked of CRM or found by it: E_own rises, and its change is a plan event (R98). -/
def countCreep (s : State) : State :=
  let c := s.crm.countEvent
  { s with crm := c, agenda := { s.agenda with plan := s.agenda.plan || decide (c.eOwn ≠ s.crm.eOwn) } }

/-! ### Slip (R99 to R102) -/

/-- CRM looks for slip at this sample (R99). -/
def looksForSlip (s : State) : Bool :=
  s.crm.watch && (decide (s.stc.state = .holding) || decide (s.stc.state = .secured))

/-- CRM after an accelerometer sample with an average (R99 to R101): a missing reference is captured, a difference over the
threshold is counted, and a run of 25 counts an event and captures the reference again. -/
def Crm.slipSample (looks : Bool) (average : Option Int) (c : Crm) : Crm :=
  match average, c.slipReference with
  | some a, some r =>
    if looks then
      if slipThreshold < (a - r).natAbs then
        let c1 : Crm := { c with slipRun := c.slipRun + 1, slipAccumulated := satInc slipTotal c.slipAccumulated }
        if slipRunLimit ≤ c1.slipRun then { c1.countEvent with slipReference := some a, slipRun := 0 } else c1
      else { c with slipRun := 0 }
    else { c with slipRun := 0 }
  | some a, none => if c.watch then { c with slipReference := some a, slipRun := 0 } else { c with slipRun := 0 }
  | none, _ => { c with slipRun := 0 }

/-- The slip comparison at an accelerometer sample; the accumulated slip that reaches 100 is a rollaway of reason SLIP, after
the creep event of the same sample (R101, R102). -/
def slipComparison (s : State) : State :=
  let c := s.crm.slipSample (looksForSlip s) s.glu.accAverage
  let s1 : State :=
    { s with crm := c, agenda := { s.agenda with plan := s.agenda.plan || decide (c.eOwn ≠ s.crm.eOwn) } }
  if c.slipAccumulated = slipTotal && s.crm.slipAccumulated ≠ slipTotal then reportRollaway .slip s1 else s1

end Sys2Proof.Machine
end

