-- ==== Sys2Proof/Machine/Handoff.lean ====
section
/-! DEFINITION. The hand-off engine (Chapter 6): the leaver record, the success test, the answers of a peer and their REPLYs. -/

namespace Sys2Proof.Machine

/-- The REQUESTs of one exchange (R107). -/
def attemptLimit : Nat := 10

/-- The time between REQUESTs, in ms (Table 6-1). -/
def attemptPeriod : Nat := 50

/-- The retry wait, in ms (R113). -/
def retryPeriod : Nat := 5000

/-! ### The leaver side -/

/-- The start conditions of an exchange, with the ask of STC (R105). -/
def exchangeReady (s : State) : Bool :=
  handoffReason s && s.hoe.retryWait.isNone && (decide (s.hoe.phase = .idle) || decide (s.hoe.phase = .deferred))
    && !peerLeaving s

/-- HOE at the beginning of an exchange: toggle flipped, replies cleared, the first REQUEST counted and the attempt timer
started (R106). -/
def Hoe.startExchange (h : Hoe) : Hoe :=
  { h with toggle := !h.toggle, replies := Table.fill none, attempts := 1, phase := .exchange,
           attemptTimer := some attemptPeriod }

/-- HOE at the end of an exchange in a phase, with the attempt timer stopped (R112, R114). -/
def Hoe.endExchange (p : LeaverPhase) (h : Hoe) : Hoe := { h with phase := p, attemptTimer := none }

/-- HOE at a change of station state: an exchange, deferral or ramp is abandoned in ALARM and FAILED (R114), and a deferral
ends where the station is no longer in HOLDING or SECURED (R105). -/
def Hoe.enter (t : StationState) (h : Hoe) : Hoe :=
  match t with
  | .alarm | .failed => h.endExchange .idle
  | .holding | .secured | .leaving => h
  | .offline | .free | .standstill | .releasing | .service => if h.phase = .deferred then { h with phase := .idle } else h

/-- A reason recorded at entry to LEAVING has ceased (R15). -/
def leaveReasonCeased (s : State) : Bool :=
  match s.stc.leaveReason with
  | some .lift => !ownLiftBit s
  | some .inhibit => !s.suc.inhibit
  | none => false

/-- The answer gathered from a station is ACCEPT (R109). -/
def acceptedBy (s : State) (n : StationNo) : Bool :=
  match s.hoe.replies.get n with
  | some r => decide (r.answer = .accept)
  | none => false

/-- The sum of the achieved forces that the pool members' replies carried (R109). -/
def acceptedForce (s : State) : Nat :=
  (s.ptb.pool.map (fun n => ((s.hoe.replies.get n).map Reply.force).getD 0)).sum

/-- The four conditions of success (R109). -/
def exchangeSucceeds (s : State) : Bool :=
  !isolatedFlags s && !s.ptb.pool.isEmpty && s.ptb.pool.all (acceptedBy s) && decide (s.hpl.fReq ≤ acceptedForce s)

/-- The replies gathered with one station's cleared (R108). -/
def Hoe.forgetReply (n : StationNo) (h : Hoe) : Hoe := { h with replies := h.replies.set n none }

/-! ### The peer side -/

/-- A PLANNER step is in flight or pending at MOD (Table 6-2). -/
def plannerBusy (m : Mod) : Bool :=
  (match m.inFlight with
   | some f => decide (f.step.source = .planner)
   | none => false)
    || m.queue.any (fun st => decide (st.source = .planner))

/-- The answer of a peer by Table 6-2 (R117); none in a state that sends no REPLY (R116). -/
def peerAnswer (s : State) : Option Answer :=
  match s.stc.state with
  | .releasing | .alarm => some .refuse
  | .standstill | .holding | .secured =>
    if isolatedFlags s then some .refuse
    else if s.stc.faults.shortfall then some .refuse
    else if plannerBusy s.mod || s.hoe.planPending then some .defer
    else some .accept
  | .offline | .free | .leaving | .service | .failed => none

/-- HOE records an answer as standing and places its REPLY, which carries the own achieved force (R117, R119). -/
def placeReply (n : StationNo) (toggle : Bool) (a : Answer) (s : State) : State :=
  placeHandoff (.reply n toggle a s.hpl.a)
    { s with hoe := { s.hoe with repliers := s.hoe.repliers.set n { s.hoe.repliers.get n with answer := some a } } }

/-- The answer to one leaver formed again: a REPLY is placed when it differs from the one standing (R119). -/
def reformAnswer (s : State) (n : StationNo) : State :=
  match (s.hoe.repliers.get n).toggle, peerAnswer s with
  | some t, some a => if (s.hoe.repliers.get n).answer = some a then s else placeReply n t a s
  | _, _ => s

/-- The answers to every leaver formed again (R119). DESIGN CHOICE (log entry 39): from the lowest station number to the
highest, so that of several REPLYs placed in one event the slot keeps that to the highest. -/
def reformAnswers (s : State) : State := (peersOf s).foldl reformAnswer s

/-- A replier record cleared: toggle, reason and answer (R120). -/
def Hoe.clearReplier (n : StationNo) (h : Hoe) : Hoe :=
  { h with repliers := h.repliers.set n { h.repliers.get n with toggle := none, reason := none, answer := none } }

end Sys2Proof.Machine
end

