-- ==== Sys2Proof/Machine/Release.lean ====
section
/-! DEFINITION. The release sequencer (Chapter 7): the drive-off condition, ranks and turns, rollback, and the record at a
change of state. -/

namespace Sys2Proof.Machine

/-- The pressure at or below which a ramp has ended, in kPa (R111, R127). -/
def rampEndPressure : Nat := 20

/-- The gear of a move, if the gear is one (R122). -/
def Gear.move : Gear → Option Direction
  | .neutral => none
  | .forward => some .forward
  | .reverse => some .reverse

/-- A move in a gear is uphill on a grade (R122). -/
def uphillMove (g : Option Int) (gMin : Nat) (gear : Direction) : Bool :=
  match g, gear with
  | some x, .forward => decide ((gMin : Int) < x)
  | some x, .reverse => decide (x < -(gMin : Int))
  | none, _ => false

/-- The drive force required for a move (R122). -/
def driveForceRequired (s : State) (gear : Direction) : Nat :=
  if uphillMove s.hpl.g s.suc.vehicle.gMin gear then s.hpl.fNom else s.suc.vehicle.releaseFloor

/-- The drive-off condition (R122); in RELEASING the gear must be the entry gear. -/
def driveOffCondition (s : State) : Bool :=
  let c := cabNow s
  s.ptb.cab.fresh && c.driver && !c.park && c.ignition
    && (match c.gear.move with
        | some gear => decide (driveForceRequired s gear ≤ c.driveForce)
            && (decide (s.stc.state ≠ .releasing) || decide (s.rsq.entryGear = some gear))
        | none => false)

/-- The conditions the drive-off timer runs on (R123). -/
def driveOffRuns (s : State) : Bool :=
  decide (s.stc.state = .holding) && driveOffCondition s && !s.rsq.abortFlag && !s.ptb.abortPeer

/-- A release is in progress: WAITING_TURN or RAMPING in RELEASING (para 7.4). -/
def releaseInProgress (s : State) : Bool := decide (s.stc.state = .releasing) && decide (s.rsq.phase ≠ .idle)

/-- The turn condition on the peers: every FRESH peer of a lower rank shows FREE (R125). -/
def lowerRanksFree (s : State) : Bool :=
  match s.rsq.rank with
  | none => false
  | some r => (freshPeers s).all (fun n =>
      match rankOfRole (entryOf s n).role with
      | some q => decide (r ≤ q) || decide ((entryOf s n).state = .free)
      | none => true)

/-- Rollback travel (R129). -/
def rollbackTravel (dir : Downhill) (gear : Option Direction) (base d : Int) : Nat :=
  match dir, gear with
  | .reverse, some .forward => (base - d).toNat
  | .forward, some .reverse => (d - base).toNat
  | .either, some .forward => (base - d).toNat
  | .either, some .reverse => (d - base).toNat
  | _, _ => 0

/-- The rollback travel of the release in progress has reached the rollback limit (R129). -/
def rollsBack (s : State) : Bool :=
  decide (s.suc.vehicle.rollbackLimit ≤ rollbackTravel s.crm.downhill s.rsq.entryGear s.rsq.rollbackBase s.crm.d)

/-- RSQ at the entry to RELEASING (R124). -/
def Rsq.startRelease (gear : Option Direction) (d : Int) (r : Rsq) : Rsq :=
  { r with entryGear := gear, rollbackBase := d, profileAppended := false, lapseTimer := none, phase := .waitingTurn,
           rampSteps := 0,
           turnTimer := match r.rank with
             | some (n + 1) => some (400 * (n + 1))
             | _ => none }

/-- RSQ as a release ends, by whatever way: its timers stopped and its phase IDLE (R127, R132, R134). DESIGN CHOICE (log entry
42): where ALARM or FAILED ends it the entry gear stays until the next entry; R127 and R132 clear it. -/
def Rsq.endRelease (r : Rsq) : Rsq := { r with turnTimer := none, lapseTimer := none, phase := .idle }

/-- The re-hold window stopped and the release-completed time cleared (R133). -/
def Rsq.closeWindow (r : Rsq) : Rsq := { r with reholdWindow := none, releaseCompleted := none }

/-- RSQ at a change of station state (R123, R124, R133, R134). -/
def Rsq.enter (f t : StationState) (gear : Option Direction) (d : Int) (r : Rsq) : Rsq :=
  let r1 : Rsq := if f = .holding then { r with driveOffTimer := none } else r
  let r2 := if f = .releasing then r1.endRelease else r1
  let r3 := if f = .free then r2.closeWindow else r2
  if t = .releasing then r3.startRelease gear d else r3

/-- RSQ at an abort (R132): the own abort flag and its timer, the reason and the count. -/
def Rsq.abort (why : AbortReason) (r : Rsq) : Rsq :=
  { r.endRelease with abortFlag := true, abortFlagTimer := some 1000, lastAbort := some why,
                      abortCount := satInc 65535 r.abortCount, entryGear := none }

/-- RSQ at a completed release (R127). -/
def Rsq.complete (now : Word32) (r : Rsq) : Rsq :=
  { r.endRelease with releaseCompleted := some now, reholdWindow := some 2000, entryGear := none }

/-- RSQ at the turn (R125, R126). -/
def Rsq.takeTurn (r : Rsq) : Rsq :=
  { r with turnTimer := none, phase := .ramping, profileAppended := true, rampSteps := 0 }

end Sys2Proof.Machine
end

