-- ==== Sys2Proof/Machine/Station.lean ====
section
/-! DEFINITION. The station controller (Chapters 1 and 8): entering a state, the exits of each state and their order (R3),
the alarm, leaving a hold, and the park valve and join of the state reached (R2). -/

namespace Sys2Proof.Machine

/-! ### Entering a state -/

/-- A change of state is a hold entry: HOLDING or SECURED from STANDSTILL (R8). -/
def isHoldEntry (f t : StationState) : Bool :=
  decide (f = .standstill) && (decide (t = .holding) || decide (t = .secured))

/-- A change of state is one of the other two entries that start a hold (R8, R13): HOLDING from RELEASING or FREE. -/
def isReentry (f t : StationState) : Bool :=
  decide (t = .holding) && (decide (f = .releasing) || decide (f = .free))

/-- The hold-time timer at a change of state (R9): started in full at an entry to HOLDING, kept between HOLDING and LEAVING,
stopped in any other state. -/
def holdTimerAt (f t : StationState) (limit : Nat) (timer : Timer) : Timer :=
  match t with
  | .holding => if f = .leaving then timer else some limit
  | .leaving => if f = .holding then timer else none
  | _ => none

/-- The fault set at a change of state: SHORTFALL cleared outside the states of R52, SPRING_SHORTFALL at every exit from
SECURED (R65). -/
def FaultSet.atChange (f t : StationState) (fs : FaultSet) : FaultSet :=
  { fs with shortfall := fs.shortfall && t.sharing
            springShortfall := fs.springShortfall && !(decide (f = .secured) && decide (t ≠ .secured)) }

/-- The state a LEAVING is entered from (R14). -/
def originOf (f : StationState) : HoldState := if f = .secured then .secured else .holding

/-- STC's own items at a change of state (R2, R8, R9, R14, R19, R20). -/
def Stc.enter (t : StationState) (now : Word32) (limit : Nat) (inhibit : Bool) (c : Stc) : Stc :=
  { c with
    state := t
    origin := if t = .leaving then some (originOf c.state) else c.origin
    leaveReason := if t = .leaving then some (if inhibit then .inhibit else .lift) else c.leaveReason
    holdEntryTime := if isHoldEntry c.state t || isReentry c.state t then now else c.holdEntryTime
    holdTimer := holdTimerAt c.state t limit c.holdTimer
    limitMark := false
    unparkMark := false
    loweringTimer := if t = .failed then none else c.loweringTimer
    faults := c.faults.atChange c.state t }

/-- HPL at a change of state (R52, R66, R67). -/
def Plan.enter (f t : StationState) (pMeas : Nat) (p : Plan) : Plan :=
  let holds := decide (t = .holding) || decide (t = .secured)
  { p with
    planLock := decide (t = .releasing)
    decreaseWait := if holds && (decide (f = .holding) || decide (f = .secured)) then p.decreaseWait else none
    lastSubmitted :=
      if holds then
        match f with
        | .standstill => 0
        | .free | .releasing | .alarm => pMeas
        | _ => p.lastSubmitted
      else p.lastSubmitted }

/-- STC changes the state to `t`: every block that reads the state acts on it (R2, R8, R93, R94, R114, R124, R133, R134), an
immediate STATUS is called for (R156), and the change is a plan event (R53). The park valve and the join follow for the last
state of a chain (`outputs`). -/
def enterState (t : StationState) (s : State) : State :=
  let f := s.stc.state
  let abandoned := (decide (t = .alarm) || decide (t = .failed)) && decide (s.hoe.phase ≠ .idle)
  { s with
    stc := s.stc.enter t s.now (s.suc.vehicle.holdLimit * 1000) s.suc.inhibit
    crm := s.crm.enter t (isHoldEntry f t) s.glu.accAverage
    hpl := s.hpl.enter f t s.mod.pMeas
    hoe := s.hoe.enter t
    rsq := s.rsq.enter f t (cabNow s).gear.move s.crm.d
    lnk := { s.lnk with
      statusPending := true
      transmission := s.lnk.renew .status
      handoffSlot := if abandoned then dropRequest s.lnk.handoffSlot else s.lnk.handoffSlot }
    agenda := { s.agenda with
      exits := true, plan := true, answers := true
      abortTest := s.agenda.abortTest || decide (t = .releasing)
      turn := s.agenda.turn || decide (t = .releasing) } }

/-! ### The alarm (Chapter 8) -/

/-- What an alarm cause writes into the entry items (Table 8-1). -/
structure AlarmCause where
  cause : EntryCause
  origin : StationNo
  reason : Option AlarmReason := none
  travel : Option Nat := none
  grade : Option Int := none
  deriving DecidableEq, Repr

/-- An alarm cause is counted, in any state (R135). -/
def countAlarm (s : State) : State := { s with alarm := { s.alarm with count := satInc 65535 s.alarm.count } }

/-- STC enters ALARM on a cause: the entry items and time are written, ack armed and the acknowledged peers cleared (R139). -/
def enterAlarm (c : AlarmCause) (s : State) : State :=
  enterState .alarm
    { s with alarm := { s.alarm with
        entryCause := some c.cause, entryOrigin := some c.origin, entryReason := c.reason,
        entryDistance := c.travel, entryGrade := c.grade, entryTime := some s.now,
        ackArmed := false, ackPeers := Table.fill false } }

/-- STC takes an alarm cause of another station (R138, R141): counted, and ALARM entered where the state allows. -/
def takeAlarmCause (c : AlarmCause) (s : State) : State :=
  if s.stc.state.alarmable then enterAlarm c (countAlarm s) else countAlarm s

/-- The cause of a FRESH peer that shows ALARM (R138). -/
def peerCause (n : StationNo) : AlarmCause := { cause := .peerState, origin := n }

/-- The entry cause of an own rollaway (R136). -/
def ownCause (n : StationNo) (r : Rollaway) : AlarmCause :=
  { cause := if r.reason = .slip then .ownSlip else .ownDistance, origin := n, reason := some r.reason,
    travel := some r.travel, grade := some r.grade }

/-- STC takes an own rollaway report (R136): in a state ALARM can be entered from, the station originates; elsewhere the
report is only counted. -/
def takeRollaway (r : Rollaway) (s : State) : State :=
  if s.stc.state.alarmable then
    enterAlarm (ownCause (own s) r)
      (placeAlarm { reason := r.reason, travel := r.travel, grade := r.grade } (countAlarm s))
  else countAlarm s

/-! ### Leaving a hold (R14, R15) -/

/-- STC returns a leaver to its origin state; a limit mark found set takes it on to SECURED at once (R9, R15). DESIGN CHOICE
(log entry 32): it does so before the hand-off exit of HOLDING, where another hand-off reason is ready there. -/
def returnToOrigin (s : State) : State :=
  let o := (s.stc.origin.getD .holding).toState
  let s1 := enterState o s
  if s.stc.limitMark && decide (o = .holding) then enterState .secured s1 else s1

/-- HOE begins an exchange and STC enters LEAVING; the first REQUEST is placed (R106, R14). -/
def startExchange (s : State) : State :=
  let s1 : State := { s with hoe := s.hoe.startExchange }
  let s2 := enterState .leaving s1
  placeHandoff (.request s2.hoe.toggle (s2.stc.leaveReason.getD .lift)) s2

/-- An exchange ends in a phase with a CANCEL, and the station returns to its origin state (R112, R114, R115). -/
def cancelExchange (p : LeaverPhase) (s : State) : State :=
  returnToOrigin (placeHandoff (.cancel s.hoe.toggle) { s with hoe := s.hoe.endExchange p })

/-- The exchange fails (R112). -/
def failExchange (s : State) : State :=
  cancelExchange .idle (raiseFault .handoffFailed { s with hoe := { s.hoe with retryWait := some retryPeriod } })

/-- HOE yields to a lower-numbered leaver (R115). -/
def yieldExchange (s : State) : State :=
  cancelExchange .deferred { s with hoe := { s.hoe with replies := Table.fill none } }

/-! ### The exits of a state (R3) -/

/-- A transition found at a test of the exits. -/
inductive Move
  | goto (t : StationState)
  | peerAlarm (n : StationNo)
  | exchange
  | withdraw
  deriving DecidableEq, Repr

/-- The three conditions of the exit from OFFLINE (R4). -/
def offlineEnds (s : State) : Bool :=
  decide (s.suc.role.val < 5) && decide (s.suc.pmem = .valid) && decide (s.suc.configWait = .ended)

/-- A FREE or SERVICE station may be in STANDSTILL (R5, R18). -/
def standstillAllowed (s : State) : Bool :=
  s.ptb.vehicleStationary && !s.stc.lifted && s.stc.loweringTimer.isNone

/-- The hill hold condition (R7). -/
def hillHold (s : State) : Bool :=
  s.ptb.cab.fresh && !securing s && !(cabNow s).pedal
    && (match s.hpl.g with
        | some g => decide (s.suc.vehicle.hillThreshold ≤ g.natAbs)
        | none => false)
    && decide ((cabNow s).driveForce < s.hpl.fNom)

/-- The fault flags that take any state to FAILED (R20). -/
def failureRaised (s : State) : Bool := s.stc.faults.pressureSensor || s.stc.faults.valveDriver

/-- The exit to ALARM on the condition alarm peer present, less the acknowledged peers (R38, R143). -/
def alarmExit (s : State) : Option Move := (unacknowledgedAlarms s).head?.map Move.peerAlarm

/-- The exits of a state other than FAILED and ALARM, in the order of R3. -/
def stateExit (s : State) : Option Move :=
  match s.stc.state with
  | .offline =>
    if offlineEnds s then some (.goto (if s.ptb.vehicleStationary then .standstill else .free)) else none
  | .free =>
    if s.suc.inhibit then some (.goto .service)
    else if standstillAllowed s then some (.goto .standstill) else none
  | .standstill =>
    if s.suc.inhibit then some (.goto .service)
    else if securing s then some (.goto .secured)
    else if s.stc.lifted then some (.goto .free)
    else if !s.ptb.vehicleStationary then some (.goto .free)
    else if hillHold s then some (.goto .holding) else none
  | .holding =>
    if exchangeReady s then some .exchange
    else if securing s then some (.goto .secured) else none
  | .secured => if exchangeReady s then some .exchange else none
  | .leaving => if decide (s.hoe.phase = .exchange) && leaveReasonCeased s then some .withdraw else none
  | .service =>
    if !s.suc.inhibit then some (.goto (if standstillAllowed s then .standstill else .free)) else none
  | .releasing | .alarm | .failed => none

/-- The first exit that applies (R3): FAILED, then ALARM, then the exits of the state. -/
def exitMove (s : State) : Option Move :=
  if failureRaised s && decide (s.stc.state ≠ .failed) then some (.goto .failed)
  else
    match (if s.stc.state.alarmable then alarmExit s else none) with
    | some m => some m
    | none => stateExit s

/-- A transition is taken. -/
def applyMove (m : Move) (s : State) : State :=
  match m with
  | .goto t => enterState t s
  | .peerAlarm n => takeAlarmCause (peerCause n) s
  | .exchange => startExchange s
  | .withdraw => cancelExchange .idle s

/-- LIFTED follows the lift bit in FREE and STANDSTILL; clearing it starts the lowering timer, setting it stops the timer
(R16). -/
def followLift (s : State) : State :=
  if (s.stc.state = .free || s.stc.state = .standstill) && (s.stc.lifted != liftAsked s) then
    { s with
      stc := { s.stc with lifted := liftAsked s, loweringTimer := if liftAsked s then none else some 3000 }
      agenda := { s.agenda with plan := true } }
  else s

/-- The exits of each new state are tested at once on the same inputs (R3). -/
def chain : Nat → State → State
  | 0, s => s
  | n + 1, s =>
    match exitMove (followLift s) with
    | some m => chain n (applyMove m (followLift s))
    | none => followLift s

/-- The length a chain of transitions can have; no state is entered twice in one chain (log entry 10). -/
def chainLimit : Nat := 10

/-! ### Park valve and join of the state reached (R2) -/

/-- The park valve of a state (Table 1-2), in LEAVING by the state it was entered from; none in SERVICE, which keeps its
setting (log entry 13). -/
def parkOf (origin : Option HoldState) : StationState → Option Bool
  | .offline | .secured | .alarm | .failed => some false
  | .free | .standstill | .holding | .releasing => some true
  | .leaving => some (decide (origin ≠ some .secured))
  | .service => none

/-- The modulator join of a state (Table 1-2), in LEAVING by the leaver phase. -/
def joinOf (phase : LeaverPhase) : StationState → Join
  | .offline | .failed => .idleTrap
  | .free | .standstill | .service => .idleVent
  | .holding | .secured => .planner
  | .releasing => .release
  | .alarm => .alarm
  | .leaving => if phase = .ramp then .release else .planner

/-- The park valve is ordered as a state asks. -/
def parkForState (s : State) : State :=
  match parkOf s.stc.origin s.stc.state with
  | some b => orderPark b s
  | none => s

/-- The join is made as a state asks. -/
def joinForState (s : State) : State := joinTo (joinOf s.hoe.phase s.stc.state) s

/-- The alarm source appends its one step, to the P_top of HPL's entry computation, at rate 0 (R139). -/
def alarmStep (s : State) : State :=
  let s1 := compute (sync s)
  appendSteps .alarm [{ target := s1.hpl.pTop, rate := 0, source := .alarm }] s1

/-- The park valve and the join are set for the last state reached (R2, R3), and in ALARM the alarm step follows (R139). -/
def outputs (s : State) : State :=
  let s1 := joinForState (parkForState s)
  if s1.stc.state = .alarm then alarmStep s1 else s1

/-- After a transition has been taken: the chain of R3, then the outputs of the state reached. -/
def afterMove (s : State) : State := outputs (chain chainLimit s)

/-- STC takes a transition, with all that follows it. -/
def moveTo (t : StationState) (s : State) : State := afterMove (enterState t s)

/-! ### The other tests at an input of the exits -/

/-- HOE stops the retry wait when no hand-off reason is present (R113), and a DEFERRED phase ends with the ask (R105). -/
def tendHandoff (s : State) : State :=
  let asked := (decide (s.stc.state = .holding) || decide (s.stc.state = .secured)) && handoffReason s
  { s with hoe := { s.hoe with
      retryWait := if handoffReason s then s.hoe.retryWait else none
      phase := if decide (s.hoe.phase = .deferred) && !asked then .idle else s.hoe.phase } }

/-- An ask that finds a FRESH peer leaving is deferred (R105). -/
def deferAsk (s : State) : State :=
  if (s.stc.state = .holding || s.stc.state = .secured) && handoffReason s && s.hoe.retryWait.isNone
      && decide (s.hoe.phase = .idle) && peerLeaving s then
    { s with hoe := { s.hoe with phase := .deferred } }
  else s

/-- The un-park mark changed: HPL computes and submits at once (R11, R12, R67). -/
def markUnpark (b : Bool) (s : State) : State :=
  { s with stc := { s.stc with unparkMark := b }, agenda := { s.agenda with plan := true, force := true } }

/-- The beginning and the lapse of an un-park (R11, R12). -/
def testUnpark (s : State) : State :=
  let s1 : State := { s with stc := { s.stc with unparkSpent := s.stc.unparkSpent && unparkCondition s } }
  if s.stc.state = .secured then
    if s.stc.unparkMark then (if unparkCondition s then s1 else markUnpark false s1)
    else if unparkCondition s && !s.stc.unparkSpent then markUnpark true s1 else s1
  else s1

/-- In SERVICE the TEST join ends when vehicle-stationary has ceased (R18). -/
def testService (s : State) : State :=
  if s.stc.state = .service && s.mod.join = .test && !s.ptb.vehicleStationary then joinTo .idleVent s else s

/-- STC tests the exits of its state (R3), with the tests that go with them. -/
def testExits (s : State) : State :=
  let s1 := tendHandoff (followLift s)
  match exitMove s1 with
  | some m => afterMove (applyMove m s1)
  | none => testService (testUnpark (deferAsk s1))

end Sys2Proof.Machine
end

