-- ==== Sys2Proof/Machine/Settle.lean ====
section
/-! DEFINITION. How one event settles: the plan event (R53), the reports between blocks that an event calls for, each taken in
turn, and the timers and the FAULT line that follow a condition. The Description gives the reports of one event no order
(R42, R92); the order of `nextReport` is the model's (log entry 8). -/

namespace Sys2Proof.Machine

/-! ### Calls for a report -/

/-- A plan event is called for (R53). -/
def askPlan (s : State) : State := { s with agenda := { s.agenda with plan := true } }

/-- A plan event is called for where a value changed. -/
def askPlanIf (b : Bool) (s : State) : State := if b then askPlan s else s

/-- A test of the exits is called for (R3). -/
def askExits (s : State) : State := { s with agenda := { s.agenda with exits := true } }

/-- The abort conditions of RSQ are to be evaluated (para 7.4). -/
def askAbortTest (s : State) : State := { s with agenda := { s.agenda with abortTest := true } }

/-- The answers to the leavers are to be formed again (R119). -/
def askAnswers (s : State) : State := { s with agenda := { s.agenda with answers := true } }

/-- The end of a ramp is to be tested (R111, R127). -/
def askRamp (s : State) : State := { s with agenda := { s.agenda with ramp := true } }

/-! ### The plan event (R53) -/

/-- HPL runs one computation: the plausibility comparison (R48), the stages, the downhill direction (R95), plan pending cleared
by a full computation (R118), the reports to STC and HOE, and the submission decision (R66, R67). -/
def planEvent (force : Bool) (s : State) : State :=
  let s1 := compute (comparePlausibility s)
  let s2 := formDownhill
    { s1 with hoe := { s1.hoe with planPending := s1.hoe.planPending && !fullState s1.stc.state } }
  submissionDecision force
    { s2 with agenda := { s2.agenda with exits := true, success := true, answers := true } }

/-! ### The end of a step (R85) -/

/-- STC takes the end of a PLANNER step that carries the un-park mark (R12). -/
def takeUnparkEnd (e : StepEnd) (s : State) : State :=
  if s.stc.state = .secured && s.stc.unparkMark && decide (e.source = .planner) && e.unpark then
    match e.outcome with
    | .reached => moveTo .holding s
    | .unreached => markUnpark false { s with stc := { s.stc with unparkSpent := true } }
    | .fault | .superseded => s
  else s

/-- A step of a release profile came to its end (R111, R127). -/
def StepEnd.profileEnd (e : StepEnd) : Bool :=
  decide (e.source = .release) && (decide (e.outcome = .reached) || decide (e.outcome = .unreached))

/-- HOE and RSQ count the ends of their own profile's steps (R111, R127). -/
def countRampStep (e : StepEnd) (s : State) : State :=
  let leaver := e.profileEnd && decide (s.hoe.phase = .ramp)
  let release := e.profileEnd && decide (s.rsq.phase = .ramping)
  { s with
    hoe := { s.hoe with rampSteps := if leaver then s.hoe.rampSteps + 1 else s.hoe.rampSteps }
    rsq := { s.rsq with rampSteps := if release then s.rsq.rampSteps + 1 else s.rsq.rampSteps } }

/-- Each block acts on the report of a step's outcome (R85): HPL sets or clears LIMITED and computes, STC tests its exits and
the end of an un-park, HOE and RSQ follow their ramps. -/
def takeEnd (e : StepEnd) (s : State) : State :=
  takeUnparkEnd e (askPlan (askExits (askAnswers (askRamp (countRampStep e (limitedByEnd e s))))))

/-! ### The end of a ramp (R15, R111, R127) -/

/-- The pressure has come down at or after the end of the second profile step. -/
def rampEnded (steps : Nat) (s : State) : Bool := decide (2 ≤ steps) && decide (s.mod.pMeas ≤ rampEndPressure)

/-- HOE reports the hand-off ramp ended, and STC goes to SERVICE, or to FREE with LIFTED set (R15, R111). DESIGN CHOICE (log
entry 30): a lowering timer that still runs stops where LIFTED is set so. -/
def endHandoffRamp (s : State) : State :=
  let s1 : State := { s with hoe := { s.hoe with phase := .idle, replies := Table.fill none } }
  match s1.stc.leaveReason with
  | some .inhibit => moveTo .service s1
  | _ =>
    let s2 := enterState .free s1
    afterMove { s2 with stc := { s2.stc with lifted := true, loweringTimer := none } }

/-- A FREE station takes up the hold again (R133): its window closes, and it goes to HOLDING unless it is lifted or being
lowered. -/
def rehold (s : State) : State :=
  let s1 : State := { s with rsq := s.rsq.closeWindow }
  if s.stc.lifted || s.stc.loweringTimer.isSome then s1 else enterState .holding s1

/-- The re-hold conditions: FREE, the window running, and abort peer present (R133). -/
def reholds (s : State) : Bool := decide (s.stc.state = .free) && s.rsq.reholdWindow.isSome && s.ptb.abortPeer

/-- RSQ reports the release completed (R127): STC goes to FREE, the window starts, LIFTED follows the lift bit, and the re-hold
is tested at the entry (R133) before the further exits of FREE. -/
def completeRelease (s : State) : State :=
  let s1 := enterState .free s
  let s2 := followLift { s1 with rsq := s1.rsq.complete s1.now }
  afterMove (if reholds s2 then rehold s2 else s2)

/-- HOE or RSQ tests the end of its ramp (R111, R127). -/
def testRamp (s : State) : State :=
  if s.stc.state = .leaving && decide (s.hoe.phase = .ramp) && rampEnded s.hoe.rampSteps s then endHandoffRamp s
  else if s.stc.state = .releasing && decide (s.rsq.phase = .ramping) && rampEnded s.rsq.rampSteps s then
    completeRelease s
  else s

/-! ### Abort, turn and success -/

/-- A release is aborted (R132): the flag and its timer, the creep event, the reason and the count, and the return to HOLDING. -/
def abortRelease (why : AbortReason) (s : State) : State :=
  moveTo .holding (countCreep { s with rsq := s.rsq.abort why })

/-- RSQ evaluates its abort conditions (R129, R131). -/
def testAbort (s : State) : State :=
  if releaseInProgress s then
    if rollsBack s then abortRelease .rollback s
    else if s.ptb.abortPeer then abortRelease .peer s
    else s
  else s

/-- RSQ takes the event of a peer showing RELEASE_ABORT (R131, R133). -/
def takeAbortEvent (s : State) : State :=
  if releaseInProgress s then abortRelease .peer s
  else if reholds s then afterMove (rehold s)
  else s

/-- The turn is taken: RAMPING, and the drive-off profile appended (R125, R126). -/
def takeTurn (s : State) : State :=
  appendSteps .release (releaseProfile s.mod.pMeas 2000) { s with rsq := s.rsq.takeTurn }

/-- RSQ tests the turn condition on the peers (R125). -/
def testTurn (s : State) : State :=
  if s.stc.state = .releasing && decide (s.rsq.phase = .waitingTurn) && lowerRanksFree s then takeTurn s else s

/-- An exchange is under way at a station in LEAVING. -/
def exchanging (s : State) : Bool := decide (s.stc.state = .leaving) && decide (s.hoe.phase = .exchange)

/-- The hand-off has succeeded: RAMP, RELEASE joined, and the hand-off profile appended (R110). -/
def succeed (s : State) : State :=
  let s1 := joinTo .release
    { s with hoe := { s.hoe with phase := .ramp, attemptTimer := none, rampSteps := 0 } }
  appendSteps .release (releaseProfile s1.mod.pMeas 1000) s1

/-- HOE tests the conditions of success (R109). -/
def testSuccess (s : State) : State := if exchanging s && exchangeSucceeds s then succeed s else s

/-- HOE acts on another leaver (R115): it yields to a lower number. -/
def testYield (m : StationNo) (s : State) : State :=
  if exchanging s && decide (m.val < (own s).val) then afterMove (yieldExchange s) else s

/-! ### Reports taken one by one -/

/-- STC takes the cause of a peer that came to show ALARM (R138). -/
def takePeerAlarm (n : StationNo) (s : State) : State :=
  let s1 := takeAlarmCause (peerCause n) s
  if s.stc.state.alarmable then afterMove s1 else s1

/-- STC takes an own rollaway (R136), and what follows an entry. -/
def takeOwnRollaway (r : Rollaway) (s : State) : State :=
  let s1 := takeRollaway r s
  if s.stc.state.alarmable then afterMove s1 else s1

/-- The next report of the event in hand is taken; none when there is none left. -/
def nextReport (s : State) : Option State :=
  let a := s.agenda
  match a.ends, a.rollaways, a.peerAlarms, a.yields with
  | e :: rest, _, _, _ => some (takeEnd e { s with agenda := { a with ends := rest } })
  | [], r :: rest, _, _ => some (takeOwnRollaway r { s with agenda := { a with rollaways := rest } })
  | [], [], n :: rest, _ => some (takePeerAlarm n { s with agenda := { a with peerAlarms := rest } })
  | [], [], [], ys =>
    if a.abortEvent then some (takeAbortEvent { s with agenda := { a with abortEvent := false } })
    else
      match ys with
      | m :: rest => some (testYield m { s with agenda := { a with yields := rest } })
      | [] =>
        if a.exits then some (testExits { s with agenda := { a with exits := false } })
        else if a.plan then some (planEvent a.force { s with agenda := { a with plan := false, force := false } })
        else if a.abortTest then some (testAbort { s with agenda := { a with abortTest := false } })
        else if a.turn then some (testTurn { s with agenda := { a with turn := false } })
        else if a.ramp then some (testRamp { s with agenda := { a with ramp := false } })
        else if a.success then some (testSuccess { s with agenda := { a with success := false } })
        else if a.answers then some (reformAnswers { s with agenda := { a with answers := false } })
        else none

/-- The reports one event can call for, at most (log entry 9). -/
def reportLimit : Nat := 64

/-- The reports of an event are taken one after another, the own entry and the derived values brought up to date before each
(R42). -/
def drain : Nat → State → State
  | 0, s => sync s
  | n + 1, s =>
    match nextReport (sync s) with
    | some t => drain n t
    | none => sync s

/-- The limit timer follows its conditions (R64). -/
def limitTimerOf (s : State) : Timer := timerWhile (limitCondition s.mod) 500 s.hpl.limitTimer

/-- The drive-off timer follows its conditions (R123). -/
def driveOffTimerOf (s : State) : Timer := timerWhile (driveOffRuns s) 100 s.rsq.driveOffTimer

/-- The lapse timer runs while the drive-off condition is false during a release (R130). -/
def lapseTimerOf (s : State) : Timer :=
  timerWhile (releaseInProgress s && !driveOffCondition s) 100 s.rsq.lapseTimer

/-- The timers and the line that follow a condition, as it now stands (R23, R64, R123, R130); the event in hand is over, and no
report is left of it (log entry 9). -/
def levels (s : State) : State :=
  { s with
    agenda := {}
    hpl := { s.hpl with limitTimer := limitTimerOf s }
    rsq := { s.rsq with driveOffTimer := driveOffTimerOf s, lapseTimer := lapseTimerOf s }
    stc := { s.stc with faultLine := faultLineOf s } }

/-- An event is taken to its end: its reports, then the timers and the FAULT line. -/
def settle (s : State) : State := levels (drain reportLimit s)

end Sys2Proof.Machine
end

