-- ==== Sys2Proof/Machine/Operands.lean ====
section
/-! DEFINITION. The operand forms: the layouts of every notice (R157, Tables 9-4 to 9-11) read from and written to payload
bytes, the parameter memory's words (Table 10-2) and the CONFIG fields with their ranges (Tables 9-9 and 10-3). -/

namespace Sys2Proof.Machine

/-! ### Bytes, words and values (R157) -/

/-- Payload byte `i`; 0 beyond the payload's end. -/
def byteAt (p : List Byte) (i : Nat) : Byte := p.getD i 0

/-- The 16-bit value of two payload bytes, the most significant first. -/
def wordAt (p : List Byte) (i : Nat) : Word16 := byteAt p i ++ byteAt p (i + 1)

/-- A number as one byte. -/
def byteOf (n : Nat) : Byte := BitVec.ofNat 8 n

/-- A 16-bit word as two bytes, the most significant first. -/
def wordBytes (w : Word16) : List Byte := [w.extractLsb' 8 8, w.extractLsb' 0 8]

/-- A 32-bit value as four bytes, the most significant first. -/
def valueBytes (v : Word32) : List Byte :=
  [v.extractLsb' 24 8, v.extractLsb' 16 8, v.extractLsb' 8 8, v.extractLsb' 0 8]

/-- A number as a 16-bit word. -/
def word16 (n : Nat) : Word16 := BitVec.ofNat 16 n

/-- A signed number as a 16-bit word in two's complement. -/
def signed16 (x : Int) : Word16 := BitVec.ofInt 16 x

/-- A mark as a bit. -/
def bit (b : Bool) : Nat := b.toNat

/-- The marks of a list as bits, the first the least significant. -/
def bitsOf : List Bool → Nat
  | [] => 0
  | b :: rest => bit b + 2 * bitsOf rest

/-! ### STATUS (Table 9-4) -/

/-- Byte 1 of a STATUS: the eight flags. -/
def flagsByte (f : EntryFlags) : Byte :=
  byteOf (128 * bit f.standstill + 64 * bit f.gradeValid + 32 * bit f.limited + 16 * bit f.shortfall
    + 8 * bit f.isolated + 4 * bit f.springsCounted + 2 * bit f.lifted + bit f.releaseAbort)

/-- The flags of byte 1 of a STATUS. -/
def flagsOfByte (b : Byte) : EntryFlags :=
  { standstill := b.getLsbD 7, gradeValid := b.getLsbD 6, limited := b.getLsbD 5, shortfall := b.getLsbD 4,
    isolated := b.getLsbD 3, springsCounted := b.getLsbD 2, lifted := b.getLsbD 1, releaseAbort := b.getLsbD 0 }

/-- The twelve bytes of a STATUS for an entry. -/
def statusPayload (e : Entry) : List Byte :=
  [byteOf (16 * e.state.code + 2 * e.role.val + bit e.spring), flagsByte e.flags]
    ++ wordBytes (word16 (16 * e.load + 2 * e.creep + bit e.loadValid))
    ++ wordBytes (signed16 (e.grade.getD 0))
    ++ wordBytes (word16 e.capacity) ++ wordBytes (word16 e.share) ++ wordBytes (word16 e.achieved)

/-- The announced fields of a STATUS of twelve bytes (R26), with the load and the grade clamped; none for another length or a
state code of 10 to 15. Presence, deadline, time since last STATUS and leaving mark are PTB's and stand at their reset values. -/
def readStatus (p : List Byte) : Option Entry :=
  if p.length = 12 then
    (stateOfCode ((byteAt p 0).toNat / 16)).map (fun st =>
      { role := Fin.ofNat 8 ((byteAt p 0).toNat / 2)
        spring := (byteAt p 0).getLsbD 0
        state := st
        flags := flagsOfByte (byteAt p 1)
        load := min 4000 ((wordAt p 2).toNat / 16)
        loadValid := (wordAt p 2).getLsbD 0
        grade := if (byteAt p 1).getLsbD 6 then some (clampInt (-600) 600 (wordAt p 4).toInt) else none
        capacity := (wordAt p 6).toNat
        share := (wordAt p 8).toNat
        achieved := (wordAt p 10).toNat
        creep := (wordAt p 2).toNat / 2 % 8 })
  else none

/-! ### CAB and DRUM (Tables 9-5, 9-6) -/

/-- The gear of a code (R30). -/
def gearOfCode (n : Nat) : Gear :=
  match n with
  | 1 => .forward
  | 2 => .reverse
  | _ => .neutral

/-- The code of a gear. -/
def Gear.code : Gear → Nat
  | .neutral => 0
  | .forward => 1
  | .reverse => 2

/-- The surface class of a code (R30). -/
def surfaceOfCode (n : Nat) : Surface :=
  match n with
  | 0 => .dry
  | 1 => .wet
  | _ => .loose

/-- The code of a surface class. -/
def Surface.code : Surface → Nat
  | .dry => 0
  | .wet => 1
  | .loose => 2

/-- The fields of a CAB payload (R30). -/
def readCab (p : List Byte) : CabValues :=
  let b := byteAt p 0
  { park := b.getLsbD 7, pedal := b.getLsbD 6, driver := b.getLsbD 5, ignition := b.getLsbD 4, ack := b.getLsbD 3
    gear := gearOfCode ((byteAt p 1).toNat / 64)
    surface := surfaceOfCode ((byteAt p 1).toNat / 16 % 4)
    driveForce := (wordAt p 2).toNat
    liftBits := byteAt p 4 }

/-- The eight bytes of a CAB payload for stored content (R168). -/
def cabPayload (c : CabValues) : List Byte :=
  [byteOf (128 * bit c.park + 64 * bit c.pedal + 32 * bit c.driver + 16 * bit c.ignition + 8 * bit c.ack),
   byteOf (64 * c.gear.code + 16 * c.surface.code)]
    ++ wordBytes (word16 c.driveForce) ++ [c.liftBits, 0, 0, 0]

/-- The drum speed of a DRUM payload (R33). -/
def drumSpeed (p : List Byte) : Int := (wordAt p 0).toInt

/-- The discharging flag of a DRUM payload (R33). -/
def drumDischarging (p : List Byte) : Bool := (byteAt p 2).getLsbD 0

/-! ### ALARM (Table 9-7) -/

/-- The reason of an ALARM notice (R138). -/
def readAlarmReason (b : Byte) : AlarmReason :=
  if b = 1 then .distance else if b = 2 then .slip else .unknown

/-- The reason byte of an own ALARM notice. -/
def AlarmReason.code : AlarmReason → Nat
  | .distance => 1
  | .slip => 2
  | .unknown => 0

/-- The alarm cause of an ALARM payload of six bytes from a station (R138); none for another length. -/
def readAlarm (n : StationNo) (p : List Byte) : Option AlarmCause :=
  if p.length = 6 then
    some { cause := .notice, origin := n, reason := some (readAlarmReason (byteAt p 1)),
           travel := some (wordAt p 2).toNat, grade := some (wordAt p 4).toInt }
  else none

/-- The six bytes of an own ALARM notice. -/
def alarmPayload (self : StationNo) (a : AlarmNotice) : List Byte :=
  [byteOf self.val, byteOf a.reason.code] ++ wordBytes (word16 a.travel) ++ wordBytes (signed16 a.grade)

/-! ### HANDOFF (Table 9-8) -/

/-- A station number carried in a byte; none above 7. -/
def readStation (b : Byte) : Option StationNo := if h : b.toNat < 8 then some ⟨b.toNat, h⟩ else none

/-- A toggle carried in a byte; none above 1. -/
def readToggle (b : Byte) : Option Bool := if b = 0 then some false else if b = 1 then some true else none

/-- A leave reason carried in a byte; none above 1. -/
def readReason (b : Byte) : Option LeaveReason := if b = 0 then some .lift else if b = 1 then some .inhibit else none

/-- The byte of a leave reason. -/
def LeaveReason.code : LeaveReason → Nat
  | .lift => 0
  | .inhibit => 1

/-- An answer carried in a byte; none above 2. -/
def readAnswer (b : Byte) : Option Answer :=
  if b = 0 then some .accept else if b = 1 then some .defer else if b = 2 then some .refuse else none

/-- The byte of an answer. -/
def Answer.code : Answer → Nat
  | .accept => 0
  | .defer => 1
  | .refuse => 2

/-- The fields of a REQUEST. -/
structure RequestBody where
  leaver : StationNo
  toggle : Bool
  reason : LeaveReason
  force : Nat
  deriving DecidableEq, Repr

/-- The fields of a REPLY. -/
structure ReplyBody where
  leaver : StationNo
  replier : StationNo
  toggle : Bool
  answer : Answer
  force : Nat
  deriving DecidableEq, Repr

/-- The fields of a CANCEL. -/
structure CancelBody where
  leaver : StationNo
  toggle : Bool
  deriving DecidableEq, Repr

/-- The fields of a REQUEST after its kind byte (R157); none where the notice is unclaimed. -/
def readRequest (b : List Byte) : Option RequestBody :=
  if b.length = 5 then
    match readStation (byteAt b 0), readToggle (byteAt b 1), readReason (byteAt b 2) with
    | some l, some t, some r => some { leaver := l, toggle := t, reason := r, force := (wordAt b 3).toNat }
    | _, _, _ => none
  else none

/-- The fields of a REPLY after its kind byte (R157); none where the notice is unclaimed. -/
def readReply (b : List Byte) : Option ReplyBody :=
  if b.length = 6 then
    match readStation (byteAt b 0), readStation (byteAt b 1), readToggle (byteAt b 2), readAnswer (byteAt b 3) with
    | some l, some r, some t, some a =>
      some { leaver := l, replier := r, toggle := t, answer := a, force := (wordAt b 4).toNat }
    | _, _, _, _ => none
  else none

/-- The fields of a CANCEL after its kind byte (R157); none where the notice is unclaimed. -/
def readCancel (b : List Byte) : Option CancelBody :=
  if b.length = 2 then
    match readStation (byteAt b 0), readToggle (byteAt b 1) with
    | some l, some t => some { leaver := l, toggle := t }
    | _, _ => none
  else none

/-- The bytes of an own HANDOFF notice; a REQUEST carries the achieved force of the moment it is framed (R150). -/
def handoffPayload (self : StationNo) (force : Nat) (h : HandoffNotice) : List Byte :=
  match h with
  | .request t r => [0, byteOf self.val, byteOf (bit t), byteOf r.code] ++ wordBytes (word16 force)
  | .reply l t a f =>
    [1, byteOf l.val, byteOf self.val, byteOf (bit t), byteOf a.code] ++ wordBytes (word16 f)
  | .cancel t => [2, byteOf self.val, byteOf (bit t)]

/-! ### CONFIG (Tables 9-9, 10-3) -/

/-- The fields of a CONFIG payload, before clamping. -/
def readConfig (p : List Byte) : VehicleParams :=
  { k0 := (byteAt p 0).toNat, kd := (byteAt p 1).toNat, creepThreshold := (byteAt p 2).toNat,
    rollawayThreshold := (wordAt p 3).toNat, hillThreshold := (byteAt p 5).toNat, gMin := (byteAt p 6).toNat,
    holdLimit := (byteAt p 7).toNat, releaseFloor := (wordAt p 8).toNat, rollbackLimit := (wordAt p 10).toNat }

/-- The fields clamped to the ranges of Table 10-3 (R162). -/
def VehicleParams.clamped (v : VehicleParams) : VehicleParams :=
  { k0 := clampNat 64 128 v.k0, kd := clampNat 0 32 v.kd, creepThreshold := clampNat 10 200 v.creepThreshold,
    rollawayThreshold := clampNat 50 1000 v.rollawayThreshold, hillThreshold := clampNat 10 200 v.hillThreshold,
    gMin := clampNat 0 100 v.gMin, holdLimit := clampNat 10 250 v.holdLimit,
    releaseFloor := clampNat 0 1000 v.releaseFloor, rollbackLimit := clampNat 20 300 v.rollbackLimit }

/-! ### The parameter memory (Table 10-2) -/

/-- The words of the bytes the parameter memory sent, the most significant byte of each first (R160). A last byte without its
second makes no word (log entry 6). -/
def wordsOfBytes : List Byte → List Word16
  | hi :: lo :: rest => (hi ++ lo) :: wordsOfBytes rest
  | _ => []

/-- Word `i` of the parameter memory as read; 0 beyond the words read. -/
def pmemWord (w : List Word16) (i : Nat) : Word16 := w.getD i 0

/-- The checksum of words 0 to 11 agrees with word 12 (R160). -/
def checksumAgrees (w : List Word16) : Bool :=
  decide (((w.take 12).foldl (fun acc x => acc + x) (0 : Word16)) = pmemWord w 12)

/-- The axle parameters of the words, unsigned fields and the two signed ones. -/
def readAxle (w : List Word16) : AxleParams :=
  let u := fun i => (pmemWord w i).toNat
  { brakeGain := u 0, pMax := u 1, springForce := u 2, springApply := u 3, springRelease := u 4, teeth := u 5,
    circumference := u 6, loadScale := u 7, loadOffset := (pmemWord w 8).toInt, ratedLoad := u 9, ratedGross := u 10,
    accOffset := (pmemWord w 11).toInt }

/-- A count lies in a range. -/
def inRange (lo hi x : Nat) : Bool := decide (lo ≤ x) && decide (x ≤ hi)

/-- Every axle parameter lies in its range (Table 10-2). -/
def AxleParams.inRanges (a : AxleParams) : Bool :=
  inRange 1 1000 a.brakeGain && inRange 100 1000 a.pMax && inRange 0 2000 a.springForce
    && inRange 100 1000 a.springApply && inRange 100 2000 a.springRelease && inRange 40 120 a.teeth
    && inRange 2000 4000 a.circumference && inRange 1 65535 a.loadScale
    && decide (-4000 ≤ a.loadOffset) && decide (a.loadOffset ≤ 4000)
    && inRange 100 4000 a.ratedLoad && inRange 1000 32000 a.ratedGross
    && decide (-100 ≤ a.accOffset) && decide (a.accOffset ≤ 100)

/-- The read is judged valid (R160): thirteen words, the checksum, and every range. -/
def pmemValid (w : List Word16) (ending : ReadEnding) : Bool :=
  decide (ending = .complete) && decide (w.length = 13) && checksumAgrees w && (readAxle w).inRanges

/-! ### DIAG (Tables 9-10, 9-11) -/

/-- The code of a result. -/
def DiagResult.code : DiagResult → Nat
  | .done => 0
  | .notHeld => 1
  | .refused => 2
  | .busy => 3

/-- The bytes of a DIAG answer. -/
def diagPayload (a : DiagAnswer) : List Byte :=
  [a.item, byteOf a.result.code, a.part, byteOf (bit a.last)] ++ a.body

end Sys2Proof.Machine
end

