-- ==== Sys2Proof/Machine/Link.lean ====
section
/-! DEFINITION. The link interface (Chapter 9): receiving and delivering a frame, framing and sending one, the failure count,
the link states, recovery and announcement, and the transmit-side commands. -/

namespace Sys2Proof.Machine

/-! ### Receiving (R147, R149, R154) -/

/-- LNK listens (R145). -/
def listening (s : State) : Bool := s.lnk.link.isSome

/-- The return to ACTIVE when both recovery marks stand (R154). -/
def Lnk.recover (l : Lnk) : Lnk :=
  if l.link = some .lost && l.recoveryAck && decide (4 ≤ l.recoveryFrames) then
    { l with link := some .active, recoveryAck := false, recoveryFrames := 0 }
  else l

/-- A valid frame of another node has been heard (R147, R154). DESIGN CHOICE (log entry 40): the received-frame mark and the
return to ACTIVE come before the frame is delivered. -/
def Lnk.heard (l : Lnk) : Lnk :=
  ({ l with
      validFrames := satInc 65535 l.validFrames
      receiveTimer := some 1000
      recoveryFrames := if l.link = some .lost then satInc 4 l.recoveryFrames else l.recoveryFrames } : Lnk).recover

/-- A valid frame that no block takes (R149). -/
def countUnclaimed (s : State) : State :=
  { s with lnk := { s.lnk with unclaimed := satInc 65535 s.lnk.unclaimed } }

/-- STC takes a delivered ALARM notice (R138), or the notice is unclaimed by its length. -/
def deliverAlarm (n : StationNo) (p : List Byte) (s : State) : State :=
  match readAlarm n p with
  | some c =>
    let s1 := takeAlarmCause c (callStatus s)
    if s.stc.state.alarmable then afterMove s1 else s1
  | none => countUnclaimed s

/-- PTB takes a frame that bears the own origin (R40). `alarm` is the payload of one of the ALARM class, which goes on to
STC. -/
def takeForeign (alarm : Option (List Byte)) (s : State) : State :=
  let s1 := raiseFault .duplicateId { s with ptb := { s.ptb with lastDuplicate := some s.now } }
  match alarm with
  | some p => deliverAlarm (own s) p s1
  | none => s1

/-- A valid frame is received and delivered (R147, R149): nothing before listening has started; by R40 when it bears the own
origin; and otherwise by the rule of its class. -/
def receiveFrom (o : Origin) (alarm : Option (List Byte)) (deliver : State → State) (s : State) : State :=
  if listening s then
    let s1 : State := { s with lnk := s.lnk.heard }
    if o.val = (own s).val then settle (takeForeign alarm s1) else deliver s1
  else s

/-- The station of an origin 0 to 7 (Table 3-2 of the introduction). -/
def stationOf (o : Origin) : Option StationNo := if h : o.val < 8 then some ⟨o.val, h⟩ else none

/-! ### Framing (R148, R150) -/

/-- A transmit slot is filled. -/
def Lnk.filled (l : Lnk) : Slot → Bool
  | .alarm => l.alarmSlot.isSome
  | .handoff => l.handoffSlot.isSome
  | .status => l.statusPending
  | .diag => l.diagSlot.isSome

/-- The filled slot of the lowest class (R150). -/
def Lnk.lowest (l : Lnk) : Option Slot := [Slot.alarm, .handoff, .status, .diag].find? l.filled

/-- The class of a slot (Table 9-3). -/
def Slot.cls : Slot → Fin 8
  | .alarm => 0
  | .handoff => 1
  | .status => 3
  | .diag => 6

/-- The payload of a slot as it is framed now (R150). -/
def slotPayload (s : State) : Slot → List Byte
  | .alarm => (s.lnk.alarmSlot.map (alarmPayload (own s))).getD []
  | .handoff => (s.lnk.handoffSlot.map (handoffPayload (own s) s.hpl.a)).getD []
  | .status => statusPayload (entryOf s (own s))
  | .diag => (s.lnk.diagSlot.map diagPayload).getD []

/-- The own station number as an origin. -/
def ownOrigin (s : State) : Origin := ⟨(own s).val, by have := (own s).isLt; omega⟩

/-- The frame of a slot as it is framed now. -/
def slotFrame (s : State) (x : Slot) : Frame := { cls := x.cls, origin := ownOrigin s, payload := slotPayload s x }

/-- The notice sent is removed from its slot (R151). -/
def Lnk.empty (l : Lnk) : Slot → Lnk
  | .alarm => { l with alarmSlot := none }
  | .handoff => { l with handoffSlot := none }
  | .status => { l with statusPending := false }
  | .diag => { l with diagSlot := none }

/-! ### Failure and loss (R151 to R154) -/

/-- The link becomes LOST (R153). -/
def loseLink (s : State) : State :=
  raiseFault .linkLost
    { s with lnk := { s.lnk with link := some .lost, recoveryAck := false, recoveryFrames := 0 } }

/-- The attempt on the link failed (R151): the slot stays, the failure counts, and in LOST the acknowledged mark clears. -/
def Lnk.fail (l : Lnk) : Lnk :=
  { l with transmission := none, failures := satInc 255 l.failures, recoveryAck := false }

/-- The link states on the failure count (R152, R153). -/
def afterFailure (s : State) : State :=
  if s.lnk.link = some .lost then s
  else if 32 ≤ s.lnk.failures then loseLink s
  else if s.lnk.link = some .active && decide (8 ≤ s.lnk.failures) then
    { s with lnk := { s.lnk with link := some .degraded } }
  else s

/-- A failed attempt, with the link states that follow (R151 to R153). -/
def failAttempt (s : State) : State := afterFailure { s with lnk := s.lnk.fail }

/-- The attempt was acknowledged (R151, R152, R154). -/
def Lnk.acknowledge (t : Transmission) (l : Lnk) : Lnk :=
  let l1 := if t.renewed then l else l.empty t.slot
  ({ l1 with
      transmission := none
      failures := 0
      link := if l1.link = some .degraded then some .active else l1.link
      recoveryAck := decide (l1.link = some .lost) } : Lnk).recover

/-! ### The transmit-side commands -/

/-- TRANSMIT_START (R148, R150): at idle the notice of the lowest-class filled slot is framed. -/
def execTransmitStart (s : State) : Host.Outcome State Fault Refusal :=
  .next (
    if listening s && s.lnk.transmission.isNone then
      match s.lnk.lowest with
      | some x =>
        { s with lnk := { s.lnk with transmission := some { slot := x, frame := slotFrame s x, renewed := false } } }
      | none => s
    else s)

/-- ARBITRATION_LOST (R148): the slot stays filled, and nothing is counted. -/
def execArbitrationLost (s : State) : Host.Outcome State Fault Refusal :=
  .next { s with lnk := { s.lnk with transmission := none } }

/-- TRANSMIT_ERROR (R148): the attempt stops and fails. -/
def execTransmitError (s : State) : Host.Outcome State Fault Refusal :=
  .next (if s.lnk.transmission.isSome then settle (failAttempt s) else s)

/-- FRAME_COMPLETED (R151): acknowledged, or a failure. -/
def execFrameCompleted (acknowledged : Bool) (s : State) : Host.Outcome State Fault Refusal :=
  .next (
    match s.lnk.transmission with
    | some t => settle (if acknowledged then { s with lnk := s.lnk.acknowledge t } else failAttempt s)
    | none => s)

/-- RECEIVE_TIMER_EXPIRY (R153): the link is LOST; in LOST the timer restarts and the received-frame mark falls to 0. -/
def execReceiveTimerExpiry (s : State) : Host.Outcome State Fault Refusal :=
  .next (
    if timerRuns s.lnk.receiveTimer then
      if s.lnk.link = some .lost then
        { s with lnk := { s.lnk with receiveTimer := some 1000, recoveryFrames := 0 } }
      else settle (loseLink { s with lnk := { s.lnk with receiveTimer := none } })
    else s)

/-- ANNOUNCE_TIMER_EXPIRY (R155): a STATUS is called for and the timer restarts with the period of the present state's
class. -/
def execAnnounceTimerExpiry (s : State) : Host.Outcome State Fault Refusal :=
  .next (
    if timerRuns s.lnk.announceTimer then
      let s1 := callStatus s
      { s1 with lnk := { s1.lnk with announceTimer := some (announcePeriod s1.stc.state) } }
    else s)

/-- INVALID_FRAME (R147): counted, and nothing else. -/
def execInvalidFrame (_reason : InvalidReason) (s : State) : Host.Outcome State Fault Refusal :=
  .next (
    if listening s then { s with lnk := { s.lnk with checkFailures := satInc 65535 s.lnk.checkFailures } } else s)

end Sys2Proof.Machine
end

