-- ==== Sys2Proof/Machine/Notices.lean ====
section
/-! DEFINITION. The received notices: CAB and DRUM with their staling (R30 to R33), STATUS with the ages of an entry (R26 to
R28), ALARM (R138), HANDOFF (R108, R116, R120), CONFIG (R162, R163), the frame of a foreign own origin (R40) and the frame
nobody takes (R149). -/

namespace Sys2Proof.Machine

/-! ### CAB (R30 to R32, R118, R142) -/

/-- Whether the values HPL, HOE and RSQ hear of differ between two readings of the cab record (R32). -/
structure CabChange where
  surface : Bool
  driveForce : Bool
  handControls : Bool
  release : Bool
  deriving DecidableEq, Repr

/-- The changes between two readings of the cab record (R32). -/
def cabChange (x y : CabValues) : CabChange :=
  { surface := decide (x.surface ≠ y.surface)
    driveForce := decide (x.driveForce ≠ y.driveForce)
    handControls := (x.park != y.park) || (x.pedal != y.pedal) || (x.ignition != y.ignition)
    release := (x.driver != y.driver) || (x.park != y.park) || (x.ignition != y.ignition) || decide (x.gear ≠ y.gear)
      || decide (x.driveForce ≠ y.driveForce) }

/-- HOE sets plan pending (R118); at a change of it the answers to the leavers are formed at once (R119). -/
def setPlanPending (s : State) : State :=
  if s.hoe.planPending then s else reformAnswers { s with hoe := { s.hoe with planPending := true } }

/-- The reports that follow an arrival or a staling of the cab record (R32, R118). -/
def cabReports (c : CabChange) (s : State) : State :=
  let s1 := if c.handControls then setPlanPending s else s
  { s1 with agenda := { s1.agenda with
      exits := true
      plan := s1.agenda.plan || c.surface || (c.driveForce && decide (s1.stc.state = .standstill))
      abortTest := s1.agenda.abortTest || c.release
      success := s1.agenda.success || c.handControls } }

/-- The FRESH peers that show ALARM, as a set (R143). -/
def alarmPeers (s : State) : Table Bool :=
  (peersOf s).foldl (fun t n => t.set n (entryOf s n).showsAlarm) (Table.fill false)

/-- STC takes the acknowledgement (R142, R143): the acknowledged peers recorded, an unsent own ALARM notice removed, ack armed
cleared, and SECURED entered. -/
def acknowledge (s : State) : State :=
  moveTo .secured
    { s with
      alarm := { s.alarm with ackPeers := alarmPeers s, ackArmed := false }
      lnk := { s.lnk with alarmSlot := none } }

/-- In ALARM an arrival or a staling that leaves the ack flag reading clear arms the acknowledgement (R142). -/
def armAcknowledgement (s : State) : State :=
  if s.stc.state = .alarm && !(cabNow s).ack then { s with alarm := { s.alarm with ackArmed := true } } else s

/-- STC tests for acknowledgement at the arrival of a CAB notice (R142). -/
def testAcknowledgement (s : State) : State :=
  if s.stc.state = .alarm && s.alarm.ackArmed && acknowledgementShown s then acknowledge s else s

/-- PTB writes the cab record (R30). -/
def writeCab (p : List Byte) (s : State) : State :=
  { s with ptb := { s.ptb with
      cab := { fresh := true, content := readCab p, arrival := some s.now, staleTimer := some 200 } } }

/-- A CAB notice of origin 8 is taken (R30, R32, R142). -/
def takeCab (p : List Byte) (s : State) : State :=
  let s1 := writeCab p s
  settle (testAcknowledgement (armAcknowledgement (cabReports (cabChange (cabNow s) (cabNow s1)) s1)))

/-- CAB_NOTICE (R30). -/
def execCabNotice (o : Origin) (p : List Byte) (s : State) : Host.Outcome State Fault Refusal :=
  .next (receiveFrom o none (fun t => if o = 8 && decide (8 ≤ p.length) then takeCab p t else countUnclaimed t) s)

/-- CAB_RECORD_STALING (R31). -/
def execCabRecordStaling (s : State) : Host.Outcome State Fault Refusal :=
  .next (
    if s.ptb.cab.fresh && timerRuns s.ptb.cab.staleTimer then
      let s1 : State := { s with ptb := { s.ptb with cab := { s.ptb.cab with fresh := false, staleTimer := none } } }
      settle (armAcknowledgement (cabReports (cabChange (cabNow s) (cabNow s1)) s1))
    else s)

/-! ### DRUM (R33) -/

/-- The drum record changed: a change of drum rotating is a plan event (R33). -/
def withDrum (d : DrumRecord) (s : State) : State :=
  settle (askPlanIf (d.rotating != s.ptb.drum.rotating) { s with ptb := { s.ptb with drum := d } })

/-- The drum record of a DRUM payload (R33). -/
def drumOf (now : Word32) (p : List Byte) : DrumRecord :=
  { fresh := true, speed := drumSpeed p, discharging := drumDischarging p, arrival := some now,
    staleTimer := some 1000 }

/-- DRUM_NOTICE (R33). -/
def execDrumNotice (o : Origin) (p : List Byte) (s : State) : Host.Outcome State Fault Refusal :=
  .next (receiveFrom o none
    (fun t => if o = 9 && decide (3 ≤ p.length) then withDrum (drumOf t.now p) t else countUnclaimed t) s)

/-- DRUM_RECORD_STALING (R33). -/
def execDrumRecordStaling (s : State) : Host.Outcome State Fault Refusal :=
  .next (
    if s.ptb.drum.fresh && timerRuns s.ptb.drum.staleTimer then
      withDrum { s.ptb.drum with fresh := false, staleTimer := none } s
    else s)

/-! ### STATUS and the ages of an entry (R26 to R28) -/

/-- The staleness deadline a STATUS sets, from the entry before it and the state announced (R27). -/
def deadlineFor (prev : Entry) (announced : StationState) : Nat :=
  if announced.passive || prev.state.passive || !prev.isFresh then 350 else 70

/-- The entry that a STATUS writes over the one before it (R26). -/
def Entry.rewritten (prev announced : Entry) : Entry :=
  { announced with
    presence := .fresh
    sinceStatus := 0
    deadline := some (deadlineFor prev announced.state)
    leaving := prev.leaving && decide (announced.state = .leaving) }

/-- The reports that follow the writing of a peer's entry (R38, R39, R42, R115). -/
def entryReports (n : StationNo) (prev e : Entry) (s : State) : State :=
  let changed := decide (prev.state ≠ e.state) || decide (prev.presence ≠ e.presence) || (prev.leaving != e.leaving)
    || decide (prev.flags ≠ e.flags)
  let a := s.agenda
  { s with agenda := { a with
      peerAlarms := if e.showsAlarm && !prev.showsAlarm then a.peerAlarms ++ [n] else a.peerAlarms
      abortEvent := a.abortEvent || (e.showsAbort && !prev.showsAbort)
      yields := if e.showsLeaving && !prev.showsLeaving then a.yields ++ [n] else a.yields
      exits := a.exits || changed
      success := a.success || changed
      plan := a.plan || poolEntryChanged prev e
      turn := a.turn || (e.isFresh && decide (prev.state ≠ e.state)) } }

/-- A replier record ends with a state other than LEAVING (R120). -/
def endReplier (b : Bool) (n : StationNo) (s : State) : State :=
  if b then { s with hoe := s.hoe.clearReplier n } else s

/-- A STATUS of station `n` is taken (R26). -/
def takeStatus (n : StationNo) (announced : Entry) (s : State) : State :=
  let prev := entryOf s n
  let e := prev.rewritten announced
  settle (entryReports n prev e (endReplier (decide (e.state ≠ .leaving)) n (setEntry n e s)))

/-- STATUS_NOTICE (R26). -/
def execStatusNotice (o : Origin) (p : List Byte) (s : State) : Host.Outcome State Fault Refusal :=
  .next (receiveFrom o none (fun t =>
    match stationOf o, readStatus p with
    | some n, some e => takeStatus n e t
    | _, _ => countUnclaimed t) s)

/-- An entry leaves the FRESH ones, or the table (R27, R28): the reply gathered and the replier record of that station end
with it (R108, R120). -/
def dropEntry (n : StationNo) (e : Entry) (s : State) : State :=
  let s1 := setEntry n e { s with hoe := (s.hoe.forgetReply n).clearReplier n }
  settle { s1 with agenda := { s1.agenda with exits := true, success := true } }

/-- ENTRY_STALENESS_DEADLINE (R27): the entry keeps its content and becomes STALE. -/
def execEntryStalenessDeadline (n : StationNo) (s : State) : Host.Outcome State Fault Refusal :=
  .next (
    let e := entryOf s n
    if decide (n ≠ own s) && e.isFresh && timerRuns e.deadline then
      dropEntry n { e with presence := .stale, deadline := none, leaving := false } s
    else s)

/-- ENTRY_ABSENT (R28): the entry is cleared to blank. -/
def execEntryAbsent (n : StationNo) (s : State) : Host.Outcome State Fault Refusal :=
  .next (
    if decide (n ≠ own s) && decide ((entryOf s n).presence ≠ .absent) then dropEntry n blankEntry s else s)

/-! ### ALARM (R138) -/

/-- ALARM_NOTICE (R138). -/
def execAlarmNotice (o : Origin) (p : List Byte) (s : State) : Host.Outcome State Fault Refusal :=
  .next (receiveFrom o (some p) (fun t =>
    match stationOf o with
    | some n => settle (deliverAlarm n p t)
    | none => countUnclaimed t) s)

/-! ### HANDOFF (R108, R116, R120) -/

/-- A REQUEST is recorded (R116): a new one with its toggle, reason and force and no answer standing, a repeat with its force
alone. -/
def ReplierRecord.request (q : RequestBody) (r : ReplierRecord) : ReplierRecord :=
  if r.toggle = some q.toggle then { r with force := q.force }
  else { toggle := some q.toggle, reason := some q.reason, force := q.force, answer := none }

/-- A REQUEST is answered at once (R116, R119). -/
def answerNow (m : StationNo) (toggle : Bool) (s : State) : State :=
  match peerAnswer s with
  | some a => placeReply m toggle a s
  | none => s

/-- A REQUEST whose leaver's entry is FRESH is taken (R29, R115, R116, R156): marked, recorded, and answered; a new one that
changes the pool is answered after the computation that follows. -/
def takeRequest (m : StationNo) (q : RequestBody) (s : State) : State :=
  let e := entryOf s m
  let r := s.hoe.repliers.get m
  let later := decide (r.toggle ≠ some q.toggle) && e.inPool
  let s1 := callStatus (setEntry m { e with leaving := true } s)
  let s2 : State := { s1 with
    hoe := { s1.hoe with repliers := s1.hoe.repliers.set m (r.request q) }
    agenda := { s1.agenda with
      yields := s1.agenda.yields ++ [m], exits := true, success := true, answers := s1.agenda.answers || later } }
  settle (if later then s2 else answerNow m q.toggle s2)

/-- HANDOFF_REQUEST (R116). -/
def execHandoffRequest (o : Origin) (b : List Byte) (s : State) : Host.Outcome State Fault Refusal :=
  .next (receiveFrom o none (fun t =>
    match stationOf o, readRequest b with
    | some m, some q =>
      if q.leaver = m then (if (entryOf t m).isFresh then takeRequest m q t else t) else countUnclaimed t
    | _, _ => countUnclaimed t) s)

/-- A REPLY to the present exchange is taken into the replies gathered (R108); a REFUSE fails the exchange (R112). -/
def takeReply (q : ReplyBody) (s : State) : State :=
  let s1 : State := { s with hoe := { s.hoe with
    replies := s.hoe.replies.set q.replier (some { answer := q.answer, force := q.force }) } }
  settle (
    if q.answer = .refuse then afterMove (failExchange s1)
    else { s1 with agenda := { s1.agenda with success := true } })

/-- HANDOFF_REPLY (R108). -/
def execHandoffReply (o : Origin) (b : List Byte) (s : State) : Host.Outcome State Fault Refusal :=
  .next (receiveFrom o none (fun t =>
    match stationOf o, readReply b with
    | some n, some q =>
      if q.replier = n then
        (if exchanging t && decide (q.leaver = own t) && q.toggle == t.hoe.toggle then takeReply q t else t)
      else countUnclaimed t
    | _, _ => countUnclaimed t) s)

/-- A CANCEL is taken (R29, R120): the leaving mark and the replier record are cleared. -/
def takeCancel (m : StationNo) (s : State) : State :=
  let s1 := setEntry m { entryOf s m with leaving := false } { s with hoe := s.hoe.clearReplier m }
  settle { s1 with agenda := { s1.agenda with exits := true, success := true } }

/-- HANDOFF_CANCEL (R120). -/
def execHandoffCancel (o : Origin) (b : List Byte) (s : State) : Host.Outcome State Fault Refusal :=
  .next (receiveFrom o none (fun t =>
    match stationOf o, readCancel b with
    | some m, some q => if q.leaver = m then takeCancel m t else countUnclaimed t
    | _, _ => countUnclaimed t) s)

/-! ### CONFIG (R162, R163) -/

/-- The states in which a CONFIG notice is accepted (R162). -/
def StationState.acceptsConfig : StationState → Bool
  | .offline | .free | .standstill => true
  | .holding | .secured | .releasing | .leaving | .alarm | .service | .failed => false

/-- SUC with an accepted CONFIG notice (R162). -/
def Suc.accept (p : List Byte) (u : Suc) : Suc :=
  { u with accepted := some p, vehicle := (readConfig p).clamped, lock := true, configWait := .ended,
           configTimer := none }

/-- A CONFIG notice is accepted (R162): a plan event, and a test of the exits. -/
def acceptConfig (p : List Byte) (s : State) : State :=
  let s1 := askPlan (askExits { s with suc := s.suc.accept p })
  settle (if (readConfig p).clamped = readConfig p then s1 else raiseFault .configClamped s1)

/-- A CONFIG notice of twelve bytes from origin 8 is taken (R162, R163). -/
def takeConfig (p : List Byte) (s : State) : State :=
  if s.suc.lock then
    if s.suc.accepted = some p then s else settle (raiseFault .configConflict (countUnclaimed s))
  else if s.stc.state.acceptsConfig then acceptConfig p s
  else countUnclaimed s

/-- CONFIG_NOTICE (R162). -/
def execConfigNotice (o : Origin) (p : List Byte) (s : State) : Host.Outcome State Fault Refusal :=
  .next (receiveFrom o none
    (fun t => if o = 8 && decide (p.length = 12) then takeConfig p t else countUnclaimed t) s)

/-! ### Foreign and unclaimed frames (R40, R149) -/

/-- FOREIGN_OWN_ORIGIN_FRAME (R40). -/
def execForeignOwnOriginFrame (cls : Fin 8) (p : List Byte) (s : State) : Host.Outcome State Fault Refusal :=
  .next (receiveFrom (ownOrigin s) (if cls = 0 then some p else none) id s)

/-- UNCLAIMED_VALID_FRAME (R149). -/
def execUnclaimedValidFrame (f : Frame) (s : State) : Host.Outcome State Fault Refusal :=
  .next (receiveFrom f.origin (if f.cls = 0 then some f.payload else none) countUnclaimed s)

end Sys2Proof.Machine
end

