-- ==== Sys2Proof/Machine/Startup.lean ====
section
/-! DEFINITION. Start-up and the INHIBIT line (Chapter 10): reset, the end of the parameter memory read, the config wait and the
INHIBIT samples. -/

namespace Sys2Proof.Machine

/-- SUC samples the seven strap pins (R159): SID0 and ROLE0 are the least significant bits of their codes. -/
def sampleStraps (p : StrapPins) : Straps :=
  { sid := Fin.ofNat 8 (bitsOf [p.sid0, p.sid1, p.sid2])
    role := Fin.ofNat 8 (bitsOf [p.role0, p.role1, p.role2])
    spring := p.spring }

/-- RESET (R1, R158, R159): every block at its reset values with the straps as sampled. The commands that wait and the count of
free values are the model's own and stay (log entry 29). -/
def execReset (pins : StrapPins) (s : State) : Host.Outcome State Fault Refusal :=
  .next { State.afterReset (sampleStraps pins) with pending := s.pending, freeCount := s.freeCount }

/-- The parameter memory was found valid (R160): the axle parameters are handed to the blocks, MOD begins spring timing (R87),
and HPL computes. DESIGN CHOICE (log entry 37): d stays 0 until the next pulse, after which R91 forms it. -/
def takeParameters (words : List Word16) (s : State) : State :=
  let a := readAxle words
  askPlan (askExits
    { s with
      suc := { s.suc with pmem := .valid, readTimer := none, words := words, axle := some a }
      mod := s.mod.springsAtStart s.suc.spring a s.now })

/-- The parameter memory was found not valid (R160): the words are kept for the service tool alone. -/
def rejectParameters (words : List Word16) (s : State) : State :=
  raiseFault .pmemFault { s with suc := { s.suc with pmem := .fault, readTimer := none, words := words } }

/-- PARAMETER_MEMORY_READ_END (R160): taken while the read is under way; it is made once. -/
def execParameterMemoryReadEnd (bytes : List Byte) (ending : ReadEnding) (s : State) :
    Host.Outcome State Fault Refusal :=
  let words := wordsOfBytes bytes
  .next (
    if s.suc.pmem = .reading then
      settle (if pmemValid words ending then takeParameters words s else rejectParameters words s)
    else s)

/-- CONFIG_WAIT_EXPIRY (R161): the wait ends, and STC tests the exit of OFFLINE. -/
def execConfigWaitExpiry (s : State) : Host.Outcome State Fault Refusal :=
  .next (
    if s.suc.configWait = .running && timerRuns s.suc.configTimer then
      settle (askExits { s with suc := { s.suc with configWait := .ended, configTimer := none } })
    else s)

/-- SUC after a sample of the INHIBIT line (R164): two equal samples make the level. -/
def Suc.sampleInhibit (asserted : Bool) (u : Suc) : Suc :=
  { u with inhibitOlder := u.inhibitLatest, inhibitLatest := asserted,
           inhibit := if u.inhibitLatest = asserted then asserted else u.inhibit }

/-- INHIBIT_SAMPLE (R164): a change of the level is reported to STC and HOE. -/
def execInhibitSample (asserted : Bool) (s : State) : Host.Outcome State Fault Refusal :=
  .next (
    let s1 : State := { s with suc := s.suc.sampleInhibit asserted }
    if s1.suc.inhibit = s.suc.inhibit then s1 else settle (askExits s1))

end Sys2Proof.Machine
end

