-- ==== Sys2Proof/Machine/Sampling.lean ====
section
/-! DEFINITION. The measurement events: the four 10 ms sensor samples (R44, R45, R49, R69, R70), the valve-driver events (R72)
and the wheel pulses (R90). -/

namespace Sys2Proof.Machine

/-- GLU after an accelerometer read (R44, R45); an unanswered one raises GRADE_SENSOR. -/
def sampleAccelerometer (reading : Option Int) (s : State) : State :=
  match reading with
  | some r => { s with glu := s.glu.answered r s.crm.standstill s.suc.axle }
  | none => raiseFault .gradeSensor { s with glu := s.glu.notAnswered }

/-- ACCELEROMETER_SAMPLE (R44): the window, then the slip comparison (R99), and a plan event. -/
def execAccelerometerSample (reading : Option Int) (s : State) : Host.Outcome State Fault Refusal :=
  .next (settle (askPlan (slipComparison (sampleAccelerometer reading s))))

/-- GLU after a load sample (R49); a raw value at either end of the range raises LOAD_SENSOR. -/
def sampleLoad (raw : BitVec 12) (s : State) : State :=
  let s1 : State := { s with glu := s.glu.loadSample raw s.stc.faults.loadSensor s.suc.axle }
  if loadRawBad raw then raiseFault .loadSensor s1 else s1

/-- LOAD_SAMPLE (R49): the load window, and a plan event. -/
def execLoadSample (raw : BitVec 12) (s : State) : Host.Outcome State Fault Refusal :=
  .next (settle (askPlan (sampleLoad raw s)))

/-- MOD ends the in-flight step FAULT, if there is one (R84). -/
def faultStep (s : State) : State := takeModResult s.mod.faultStep s

/-- HPL runs its limit timer from the pressure, the step and the valves as they stand (R64, R69). -/
def runLimitTimer (s : State) : State := { s with hpl := { s.hpl with limitTimer := limitTimerOf s } }

/-- A valid chamber pressure (R69): p_meas, with which HPL runs its limit timer against the target as it stood and computes, its
achieved force included; then the step evaluation and the valves, and the ramps that end at a low pressure. -/
def takePressure (p : Nat) (s : State) : State :=
  let s1 := planEvent false (sync (runLimitTimer { s with mod := { s.mod with pMeas := p } }))
  askRamp (takeModResult s1.mod.evaluate s1)

/-- CHAMBER_PRESSURE_SAMPLE (R69). A raw value that is no pressure raises PRESSURE_SENSOR and ends the step FAULT. -/
def execChamberPressureSample (raw : BitVec 12) (s : State) : Host.Outcome State Fault Refusal :=
  .next (settle (
    if pressureRawBad raw then askPlan (raiseFault .pressureSensor (faultStep s))
    else takePressure (pressureOfRaw raw) s))

/-- MOD after a supply sample (R70). -/
def Mod.sampleSupply (raw : BitVec 12) (m : Mod) : Mod :=
  { m with lastSupplyRaw := some raw, pSup := if pressureRawBad raw then m.pSup else pressureOfRaw raw }

/-- SUPPLY_SAMPLE (R70): P_sup or SUPPLY_SENSOR, and a plan event. -/
def execSupplySample (raw : BitVec 12) (s : State) : Host.Outcome State Fault Refusal :=
  .next (
    let s1 : State := { s with mod := s.mod.sampleSupply raw }
    settle (askPlan (if pressureRawBad raw then raiseFault .supplySensor s1 else s1)))

/-- VALVE_DRIVER_FAULT (R72): VALVE_DRIVER is raised and the in-flight step ends FAULT. -/
def execValveDriverFault (_driver : ValveDriver) (_report : DriverReport) (s : State) :
    Host.Outcome State Fault Refusal :=
  .next (settle (raiseFault .valveDriver (faultStep s)))

/-- CRM and GLU after a wheel pulse (R90 to R92, R96, R44): counts, distance, the standstill flag, and the creep test; the
accelerometer window empties where the flag clears. -/
def pulse (w : Wheel) (dir : Direction) (s : State) : State :=
  { s with
    crm := (s.crm.pulse w dir s.suc.axle).creepTest s.suc.vehicle.creepThreshold
    glu := if s.crm.standstill then s.glu.emptyAcc else s.glu }

/-- The reports of a pulse (R92, R98, R103): the standstill flag and E_own to HPL and STC, the distance to RSQ. -/
def pulseReports (before s : State) : State :=
  { s with agenda := { s.agenda with
      exits := true
      plan := s.agenda.plan || before.crm.standstill || decide (s.crm.eOwn ≠ before.crm.eOwn)
      abortTest := true } }

/-- WHEEL_PULSE (R90): the rollaway test follows the creep event (R97). -/
def execWheelPulse (w : Wheel) (dir : Direction) (s : State) : Host.Outcome State Fault Refusal :=
  .next (settle (pulseReports s (rollawayTest (pulse w dir s))))

end Sys2Proof.Machine
end

