-- ==== Sys2Proof/Machine/Timers.lean ====
section
/-! DEFINITION. The timer expiries of the blocks of the axle (STC, PTB, GLU, HPL, MOD, CRM, HOE and RSQ). Each is the event of
its timer and changes nothing where that timer is stopped (`timerRuns`). -/

namespace Sys2Proof.Machine

/-- STANDSTILL_TIMER_EXPIRY (R92): the own standstill flag sets, a plan event and an input of the exits. -/
def execStandstillTimerExpiry (s : State) : Host.Outcome State Fault Refusal :=
  .next (
    if timerRuns s.crm.standstillTimer then
      settle (askPlan (askExits { s with crm := { s.crm with standstill := true, standstillTimer := none } }))
    else s)

/-- VEHICLE_STATIONARY_TIMER_EXPIRY (R36): vehicle-stationary becomes true where the raw condition still holds. -/
def execVehicleStationaryTimerExpiry (s : State) : Host.Outcome State Fault Refusal :=
  .next (
    if timerRuns s.ptb.stationaryTimer then
      settle (askExits { s with ptb := { s.ptb with
        vehicleStationary := rawStationary (own s) s.ptb.entries, stationaryTimer := none } })
    else s)

/-- SPRING_APPLY_TIMER_EXPIRY (R87): SPRINGS_COUNTED sets; its change is a plan event (R86). -/
def execSpringApplyTimerExpiry (s : State) : Host.Outcome State Fault Refusal :=
  .next (
    if timerRuns s.mod.springTimer then
      let m := s.mod.springsApplied s.suc.spring
      settle (askPlanIf (m.springsCounted != s.mod.springsCounted) { s with mod := m })
    else s)

/-- The hold-time limit is reached (R9): HOLDING goes to SECURED, LEAVING sets the limit mark. -/
def holdTimeReached (s : State) : State :=
  match s.stc.state with
  | .holding => moveTo .secured s
  | .leaving => { s with stc := { s.stc with limitMark := true } }
  | _ => s

/-- HOLD_TIME_TIMER_EXPIRY (R9). -/
def execHoldTimeTimerExpiry (s : State) : Host.Outcome State Fault Refusal :=
  .next (
    if timerRuns s.stc.holdTimer then
      settle (holdTimeReached { s with stc := { s.stc with holdTimer := none } })
    else s)

/-- LOWERING_TIMER_EXPIRY (R16): the station is available again, and the exits are tested. -/
def execLoweringTimerExpiry (s : State) : Host.Outcome State Fault Refusal :=
  .next (
    if timerRuns s.stc.loweringTimer then
      settle (askExits { s with stc := { s.stc with loweringTimer := none } })
    else s)

/-- PLAUSIBILITY_TIMER_EXPIRY (R48): the failure mark and GRADE_SENSOR. -/
def execPlausibilityTimerExpiry (s : State) : Host.Outcome State Fault Refusal :=
  .next (
    if timerRuns s.glu.plausibilityTimer then
      settle (raiseFault .gradeSensor
        { s with glu := { s.glu with plausibilityTimer := none, plausibilityFailed := true } })
    else s)

/-- The highest pressure of the step in flight, as MOD reports it (R64); the present pressure where none is. -/
def highestPressure (m : Mod) : Nat := (m.inFlight.map InFlight.highest).getD m.pMeas

/-- LIMIT_TIMER_EXPIRY (R64): LIMITED is set with the highest pressure of the step in flight. -/
def execLimitTimerExpiry (s : State) : Host.Outcome State Fault Refusal :=
  .next (if timerRuns s.hpl.limitTimer then settle (setLimited (highestPressure s.mod) s) else s)

/-- The decrease wait has run out (R66): the latest target is submitted where it is still 40 kPa or more below the last
submitted one, in the states that submit. -/
def decreaseWaitOver (s : State) : State :=
  let s1 : State := { s with hpl := { s.hpl with decreaseWait := none } }
  if (s.stc.state = .holding || s.stc.state = .secured) && targetFalls s.hpl then submitTarget s1 else s1

/-- DECREASE_WAIT_EXPIRY (R66). -/
def execDecreaseWaitExpiry (s : State) : Host.Outcome State Fault Refusal :=
  .next (if s.hpl.decreaseWait.isSome then settle (askAnswers (decreaseWaitOver s)) else s)

/-- A further REQUEST is placed, or the tenth expiry fails the exchange (R107, R112). -/
def nextAttempt (s : State) : State :=
  if s.hoe.attempts < attemptLimit then
    placeHandoff (.request s.hoe.toggle (s.stc.leaveReason.getD .lift))
      { s with hoe := { s.hoe with attempts := s.hoe.attempts + 1, attemptTimer := some attemptPeriod } }
  else afterMove (failExchange s)

/-- ATTEMPT_TIMER_EXPIRY (R107). -/
def execAttemptTimerExpiry (s : State) : Host.Outcome State Fault Refusal :=
  .next (if exchanging s && timerRuns s.hoe.attemptTimer then settle (nextAttempt s) else s)

/-- RETRY_WAIT_EXPIRY (R113): the standing ask is tested again. -/
def execRetryWaitExpiry (s : State) : Host.Outcome State Fault Refusal :=
  .next (
    if timerRuns s.hoe.retryWait then settle (askExits { s with hoe := { s.hoe with retryWait := none } }) else s)

/-- DRIVE_OFF_TIMER_EXPIRY (R123): HOLDING goes to RELEASING. -/
def execDriveOffTimerExpiry (s : State) : Host.Outcome State Fault Refusal :=
  .next (
    if timerRuns s.rsq.driveOffTimer then
      let s1 : State := { s with rsq := { s.rsq with driveOffTimer := none } }
      settle (if s.stc.state = .holding then moveTo .releasing s1 else s1)
    else s)

/-- TURN_TIMER_EXPIRY (R125): in WAITING_TURN the turn is taken. -/
def execTurnTimerExpiry (s : State) : Host.Outcome State Fault Refusal :=
  .next (
    if timerRuns s.rsq.turnTimer then
      let s1 : State := { s with rsq := { s.rsq with turnTimer := none } }
      settle (if s.stc.state = .releasing && decide (s.rsq.phase = .waitingTurn) then takeTurn s1 else s1)
    else s)

/-- LAPSE_TIMER_EXPIRY (R130): the release in progress is aborted. -/
def execLapseTimerExpiry (s : State) : Host.Outcome State Fault Refusal :=
  .next (
    if timerRuns s.rsq.lapseTimer then
      settle (if releaseInProgress s then abortRelease .lapse s
        else { s with rsq := { s.rsq with lapseTimer := none } })
    else s)

/-- ABORT_FLAG_TIMER_EXPIRY (R132): the own abort flag clears. -/
def execAbortFlagTimerExpiry (s : State) : Host.Outcome State Fault Refusal :=
  .next (
    if timerRuns s.rsq.abortFlagTimer then
      settle { s with rsq := { s.rsq with abortFlag := false, abortFlagTimer := none } }
    else s)

/-- REHOLD_WINDOW_EXPIRY (R133): the release-completed time is cleared. -/
def execReholdWindowExpiry (s : State) : Host.Outcome State Fault Refusal :=
  .next (if timerRuns s.rsq.reholdWindow then { s with rsq := s.rsq.closeWindow } else s)

end Sys2Proof.Machine
end

