-- ==== Sys2Proof/Machine/Diag.lean ====
section
/-! DEFINITION. The diagnostic responder (Chapter 11): the item map, the answers, CLEAR and WRITE, record reads with their
cursor, and TEST steps. -/

namespace Sys2Proof.Machine

/-! ### Values as a service tool reads them (R166) -/

/-- A value that is none or absent. -/
def allOnes : Word32 := BitVec.allOnes 32

/-- A number as an answer's value. -/
def num (n : Nat) : Word32 := BitVec.ofNat 32 n

/-- A signed number as an answer's value. -/
def int (x : Int) : Word32 := BitVec.ofInt 32 x

/-- A flag or mark as an answer's value. -/
def mark (b : Bool) : Word32 := num b.toNat

/-- A timer as an answer's value. -/
def timer (t : Timer) : Word32 := num (timerRemaining t)

/-- A value that may be none. -/
def orNone {α : Type} (f : α → Word32) (o : Option α) : Word32 := (o.map f).getD allOnes

/-- A window read oldest sample first; one that holds no sample reads all ones at part 0. -/
def window (l : List Word32) : List Word32 := if l.isEmpty then [allOnes] else l

/-- Position of a valve command among its values, energised and de-energised (log entry 12). -/
def energised (b : Bool) : Word32 := if b then num 0 else num 1

/-- Position of a state LEAVING was entered from. -/
def HoldState.pos : HoldState → Nat
  | .holding => 0
  | .secured => 1

/-- Position of an entry cause. -/
def EntryCause.pos : EntryCause → Nat
  | .ownDistance => 0
  | .ownSlip => 1
  | .notice => 2
  | .peerState => 3

/-- Position of an alarm reason. -/
def AlarmReason.pos : AlarmReason → Nat
  | .distance => 0
  | .slip => 1
  | .unknown => 2

/-- Position of a join. -/
def Join.pos : Join → Nat
  | .idleVent => 0
  | .idleTrap => 1
  | .planner => 2
  | .release => 3
  | .alarm => 4
  | .test => 5

/-- Position of a downhill direction. -/
def Downhill.pos : Downhill → Nat
  | .reverse => 0
  | .forward => 1
  | .either => 2

/-- Position of a leaver phase. -/
def LeaverPhase.pos : LeaverPhase → Nat
  | .idle => 0
  | .deferred => 1
  | .exchange => 2
  | .ramp => 3

/-- Position of a release phase. -/
def ReleasePhase.pos : ReleasePhase → Nat
  | .idle => 0
  | .waitingTurn => 1
  | .ramping => 2

/-- Position of an entry gear. -/
def directionPos : Direction → Nat
  | .forward => 0
  | .reverse => 1

/-- Position of an abort reason. -/
def AbortReason.pos : AbortReason → Nat
  | .rollback => 0
  | .lapse => 1
  | .peer => 2

/-- Position of a transmit slot. -/
def Slot.pos : Slot → Nat
  | .alarm => 0
  | .handoff => 1
  | .status => 2
  | .diag => 3

/-- Position of a link state. -/
def LinkState.pos : LinkState → Nat
  | .active => 0
  | .degraded => 1
  | .lost => 2

/-- Position of a parameter memory status. -/
def PmemStatus.pos : PmemStatus → Nat
  | .reading => 0
  | .valid => 1
  | .fault => 2

/-- Position of a config wait. -/
def ConfigWait.pos : ConfigWait → Nat
  | .running => 0
  | .ended => 1

/-- Position of a step source (R168). -/
def Source.pos : Source → Nat
  | .planner => 0
  | .release => 1
  | .alarm => 2
  | .test => 3

/-- Position of a presence (R168). -/
def Presence.pos : Presence → Nat
  | .absent => 0
  | .fresh => 1
  | .stale => 2

/-- The flags in the order of the rows of Table 1-3. -/
def allFlags : List Flag :=
  [.strapFault, .pmemFault, .duplicateId, .linkLost, .gradeSensor, .loadSensor, .supplySensor, .pressureSensor,
   .valveDriver, .stepUnreached, .queueOverrun, .configConflict, .configClamped, .handoffFailed, .shortfall,
   .springShortfall]

/-! ### The item map (Table 11-1) -/

/-- Items 0 upward: the quantities of Table 1-1. -/
def stcItems (s : State) : List (List Word32) :=
  let c := s.stc
  [[num c.state.code], [orNone (fun o => num o.pos) c.origin], [orNone (fun r => num r.code) c.leaveReason],
   [c.holdEntryTime], [timer c.holdTimer], [mark c.limitMark], [mark c.unparkMark], [mark c.lifted],
   [timer c.loweringTimer], [num (bitsOf (allFlags.map c.faults.get))], [mark c.faultLine]]

/-- Items 16 upward: the quantities of Table 8-1, the acknowledged peers excepted. -/
def alarmItems (s : State) : List (List Word32) :=
  let a := s.alarm
  [[num a.count], [orNone (fun c => num c.pos) a.entryCause], [orNone (fun n => num n.val) a.entryOrigin],
   [orNone (fun r => num r.pos) a.entryReason], [orNone num a.entryDistance], [orNone int a.entryGrade],
   [orNone id a.entryTime], [mark a.ackArmed]]

/-- Items 40 upward: the quantities of Table 3-2. -/
def planItems (s : State) : List (List Word32) :=
  let p := s.hpl
  [[orNone int p.g], [int p.lastG], [num p.m], [num p.k], [num p.ge], [num p.fReq], [num p.fNom], [num p.pTop],
   [num p.cb], [num p.l], [num p.sc], [num p.c], [num p.r], [num p.poolCapacity], [num p.share], [num p.pT],
   [mark p.clamped], [num p.a], [num p.springCapacity], [num p.lastSubmitted],
   [num ((p.decreaseWait.map DecreaseWait.remaining).getD 0),
    orNone (fun w => num w.start) p.decreaseWait],
   [mark p.limited], [num p.bestAchieved], [timer p.limitTimer], [mark p.planLock]]

/-- Items 72 upward: the quantities of Table 3-1. -/
def gluItems (s : State) : List (List Word32) :=
  let g := s.glu
  [window (g.accWindow.map int), [orNone int g.accAverage], [orNone int g.ownGrade], [mark g.gradeValid],
   [mark g.accAnswering], [timer g.plausibilityTimer], [mark g.plausibilityFailed], window (g.loadWindow.map num),
   [orNone num g.loadAverage], [mark g.loadValid]]

/-- Items 88 upward: the quantities of Table 4-1, the pending queue and the in-flight step excepted. -/
def modItems (s : State) : List (List Word32) :=
  let m := s.mod
  [[num m.join.pos], [orNone num m.standing], [num m.pMeas], [num m.pSup], [energised m.applyCmd],
   [energised m.releaseCmd], [energised m.parkCmd], [mark m.springsCounted], [timer m.springTimer],
   [orNone Energising.time m.lastEnergising, orNone (fun e => mark e.counted) m.lastEnergising],
   [num m.dropped]]

/-- Items 104 upward: the quantities of Table 5-1. -/
def crmItems (s : State) : List (List Word32) :=
  let c := s.crm
  [[int c.left], [int c.right], [int c.axle], [int c.d], [mark c.standstill], [timer c.standstillTimer],
   [int c.rebase], [num c.eOwn], [int c.rollBase], [num c.downhill.pos], [orNone int c.slipReference],
   [num c.slipRun], [num c.slipAccumulated], [mark c.watch]]

/-- Items 120 upward: the quantities of Table 6-1, the replies gathered and the replier records excepted. -/
def hoeItems (s : State) : List (List Word32) :=
  let h := s.hoe
  [[num h.phase.pos], [mark h.toggle], [num h.attempts], [timer h.attemptTimer], [timer h.retryWait],
   [mark h.planPending]]

/-- Items 136 upward: the quantities of Table 7-1. -/
def rsqItems (s : State) : List (List Word32) :=
  let r := s.rsq
  [[num r.phase.pos], [timer r.driveOffTimer], [orNone (fun g => num (directionPos g)) r.entryGear], [orNone num r.rank],
   [timer r.turnTimer], [int r.rollbackBase], [timer r.lapseTimer], [mark r.profileAppended], [mark r.abortFlag],
   [timer r.abortFlagTimer], [orNone id r.releaseCompleted], [timer r.reholdWindow],
   [orNone (fun w => num w.pos) r.lastAbort], [num r.abortCount]]

/-- Items 152 upward: the quantities of Table 9-1, the slots excepted; the two recovery marks are an item each. -/
def lnkItems (s : State) : List (List Word32) :=
  let l := s.lnk
  [[orNone (fun t => num t.slot.pos) l.transmission], [num l.failures], [orNone (fun x => num x.pos) l.link],
   [timer l.receiveTimer], [mark l.recoveryAck], [num l.recoveryFrames], [timer l.announceTimer],
   [num l.validFrames], [num l.checkFailures], [num l.unclaimed]]

/-- Four payload bytes from place `i` as one value. -/
def fourBytes (p : List Byte) (i : Nat) : Word32 := wordAt p i ++ wordAt p (i + 2)

/-- Items 168 upward: the quantities of Table 10-1, the axle and vehicle parameters excepted. DESIGN CHOICE (log entry 41): an
accepted content that is none is one part of all ones. -/
def sucItems (s : State) : List (List Word32) :=
  let u := s.suc
  [[num u.sid.val], [num u.role.val], [mark u.spring], [num u.pmem.pos], [mark u.lock],
   (match u.accepted with
    | some p => [fourBytes p 0, fourBytes p 4, fourBytes p 8]
    | none => [allOnes]),
   [num u.configWait.pos, timer u.configTimer], [mark u.inhibitOlder, mark u.inhibitLatest], [mark u.inhibit]]

/-- Items 184 upward: the words of the parameter memory as read, words 8 and 11 signed. -/
def axleItems (s : State) : List (List Word32) :=
  (List.range 12).map (fun i =>
    [orNone (fun w : Word16 => if i = 8 || i = 11 then int w.toInt else num w.toNat) s.suc.words[i]?])

/-- Items 200 upward: the vehicle parameters now in force. -/
def vehicleItems (s : State) : List (List Word32) :=
  let v := s.suc.vehicle
  [[num v.k0], [num v.kd], [num v.creepThreshold], [num v.rollawayThreshold], [num v.hillThreshold], [num v.gMin],
   [num v.holdLimit], [num v.releaseFloor], [num v.rollbackLimit]]

/-- Items 216 upward: the derived values from vehicle-stationary to last duplicate time. -/
def ptbItems (s : State) : List (List Word32) :=
  let p := s.ptb
  [[mark p.vehicleStationary, timer p.stationaryTimer], [num p.eVehicle], [mark p.alarmPeer], [mark p.abortPeer],
   [orNone id p.lastDuplicate]]

/-- The values of a read-only or read-clear item; none for any other (Table 11-1). -/
def itemValues (s : State) (i : Nat) : Option (List Word32) :=
  if i < 16 then (stcItems s)[i]?
  else if i < 24 then (alarmItems s)[i - 16]?
  else if i < 40 then (allFlags.map (fun f => [mark (s.stc.faults.get f)]))[i - 24]?
  else if i < 72 then (planItems s)[i - 40]?
  else if i < 88 then (gluItems s)[i - 72]?
  else if i < 104 then (modItems s)[i - 88]?
  else if i < 120 then (crmItems s)[i - 104]?
  else if i < 136 then (hoeItems s)[i - 120]?
  else if i < 152 then (rsqItems s)[i - 136]?
  else if i < 168 then (lnkItems s)[i - 152]?
  else if i < 184 then (sucItems s)[i - 168]?
  else if i < 200 then (axleItems s)[i - 184]?
  else if i < 216 then (vehicleItems s)[i - 200]?
  else if i < 224 then (ptbItems s)[i - 216]?
  else if i = 235 then some [num (bitsOf (allStations.map s.alarm.ackPeers.get))]
  else none

/-- An item is a record (Table 11-1). -/
def isRecord (i : Nat) : Bool := (decide (224 ≤ i) && decide (i ≤ 234)) || decide (i = 236) || decide (i = 237)

/-- The item of the TEST step (Table 11-1). -/
def testItem : Nat := 240

/-- An item is known (R166). -/
def isKnown (s : State) (i : Nat) : Bool := (itemValues s i).isSome || isRecord i || decide (i = testItem)

/-! ### Answers (R165) -/

/-- An answer of one value is placed; a value or a last-part bit that the Description does not state is free (log entry 4). -/
def answer (q : DiagRequest) (r : DiagResult) (last : Option Bool) (value : Option Word32) (s : State) : State :=
  let t := placeDiag
    { item := q.item, result := r, part := q.part
      last := last.getD (Config.unstatedLastPart s.freeCount)
      body := valueBytes (value.getD (Config.unstatedAnswerValue s.freeCount)) } s
  { t with freeCount := if last.isNone || value.isNone then s.freeCount + 1 else s.freeCount }

/-- An answer of a record part is placed (R168). -/
def answerPart (q : DiagRequest) (last : Bool) (bytes : List Byte) (s : State) : State :=
  placeDiag { item := q.item, result := .done, part := q.part, last := last, body := bytes } s

/-- The refusal of a known item, or NOT_HELD for an unknown one, each with an unstated value (R167, R168). -/
def turnAway (q : DiagRequest) (s : State) : State :=
  answer q (if isKnown s q.item.toNat then .refused else .notHeld) none none s

/-- A DIAG request is delivered to DGR where it names this station and comes from a service tool (R149). -/
def diagDeliver (q : DiagRequest) (f : State → State) (s : State) : State :=
  receiveFrom q.origin none
    (fun t => if 14 ≤ q.origin.val && decide (q.target.toNat = (own t).val) then f t else countUnclaimed t) s

/-! ### READ, CLEAR and WRITE (R166, R167) -/

/-- A READ is answered (R166). -/
def readItem (q : DiagRequest) (s : State) : State :=
  match itemValues s q.item.toNat with
  | some vs =>
    match vs[q.part.toNat]? with
    | some v => answer q .done (some (decide (q.part.toNat + 1 = vs.length))) (some v) s
    | none => answer q .notHeld none (some allOnes) s
  | none =>
    if isKnown s q.item.toNat then answer q .refused none none s else answer q .notHeld none (some allOnes) s

/-- DIAG_READ (R166). -/
def execDiagRead (q : DiagRequest) (s : State) : Host.Outcome State Fault Refusal :=
  .next (diagDeliver q (readItem q) s)

/-- STC acts on the CLEAR of a flag (R22): cleared where its blocking condition is gone. -/
def clearFlag (f : Flag) (s : State) : State := if clearBlocked s f then s else putFault f false s

/-- The result of a CLEAR (R22): REFUSED where the flag stays set. -/
def clearResult (f : Flag) (s : State) : DiagResult :=
  if s.stc.faults.get f && clearBlocked s f then .refused else .done

/-- A CLEAR is taken (R167); the answer carries the flag as it stands after it. -/
def clearItem (q : DiagRequest) (s : State) : State :=
  match (if 24 ≤ q.item.toNat then allFlags[q.item.toNat - 24]? else none) with
  | some f =>
    let s1 := if s.stc.faults.get f then clearFlag f s else s
    settle (answer q (clearResult f s) none (some (mark (s1.stc.faults.get f))) s1)
  | none => turnAway q s

/-- DIAG_CLEAR (R167). -/
def execDiagClear (q : DiagRequest) (s : State) : Host.Outcome State Fault Refusal :=
  .next (diagDeliver q (clearItem q) s)

/-! ### TEST steps (R169) -/

/-- The target of a TEST request, in the upper 16 bits of its value. -/
def testTarget (q : DiagRequest) : Nat := (q.value.extractLsb' 16 16).toNat

/-- The rate of a TEST request, in the lower 16 bits of its value. -/
def testRate (q : DiagRequest) : Nat := (q.value.extractLsb' 0 16).toNat

/-- The step of a TEST request. -/
def testStep (q : DiagRequest) : Step := { target := testTarget q, rate := testRate q, source := .test }

/-- A TEST request may be taken: in SERVICE with the vehicle stationary, and within the limits of target and rate. -/
def testAllowed (q : DiagRequest) (s : State) : Bool :=
  decide (s.stc.state = .service) && s.ptb.vehicleStationary && decide (testTarget q ≤ 1000)
    && decide (testRate q ≤ 10000)

/-- A TEST request is taken (R169). DESIGN CHOICE (log entry 43): the DONE answer's value is the accepted target as a number, in its
low-order bits. -/
def takeTest (q : DiagRequest) (s : State) : State :=
  if testAllowed q s then
    let s1 := joinTo .test s
    let s2 := appendSteps .test [testStep q] s1
    settle (
      if queueLimit ≤ s1.mod.queue.length then answer q .busy none none s2
      else answer q .done none (some (num (min (testTarget q) s1.hpl.pTop))) s2)
  else answer q .refused none none s

/-- DIAG_TEST (R169). -/
def execDiagTest (q : DiagRequest) (s : State) : Host.Outcome State Fault Refusal :=
  .next (diagDeliver q (takeTest q) s)

/-- DIAG_WRITE (R167): item 240 is taken as a TEST request; any other is turned away. -/
def execDiagWrite (q : DiagRequest) (s : State) : Host.Outcome State Fault Refusal :=
  .next (diagDeliver q (fun t => if q.item.toNat = testItem then takeTest q t else turnAway q t) s)

/-! ### Record reads (R168) -/

/-- A Peer Table row in parts. -/
def rowParts (e : Entry) : List (List Byte) :=
  let content := if e.presence = .absent then List.replicate 12 0 else statusPayload e
  [[byteOf e.presence.pos, byteOf (bit e.leaving)] ++ wordBytes (word16 e.sinceStatus),
   content.take 8, content.drop 8]

/-- The age of the cab record in ms, where it is one that two bytes hold; free otherwise (log entry 5). -/
def cabAge (s : State) : Option Nat :=
  match s.ptb.cab.arrival with
  | some t => if timeSince s.now t < 65536 then some (timeSince s.now t) else none
  | none => none

/-- The cab record in parts. -/
def cabParts (s : State) : List (List Byte) :=
  let age := ((cabAge s).map word16).getD (Config.unstatedAge s.freeCount)
  [cabPayload s.ptb.cab.content, byteOf (bit s.ptb.cab.fresh) :: wordBytes age]

/-- A list of bytes cut into parts of eight, at most `n` of them. -/
def partsOf : Nat → List Byte → List (List Byte)
  | 0, _ => []
  | n + 1, l => if l.isEmpty then [] else l.take 8 :: partsOf n (l.drop 8)

/-- The plan record in parts: each item of Table 3-2 as a 16-bit value, four to a part. DESIGN CHOICE (log entries 33 and 34): the
decrease wait gives its remaining time alone, and a value of more than 16 bits its low 16. -/
def planParts (s : State) : List (List Byte) :=
  partsOf 7 (((planItems s).map (fun vs => wordBytes ((vs.headD allOnes).setWidth 16))).flatten)

/-- One step part: target, rate, source, marks, retry count and join. -/
def stepPart (st : Step) (retry : Nat) (j : Join) : List Byte :=
  wordBytes (word16 st.target) ++ wordBytes (word16 st.rate)
    ++ [byteOf st.source.pos, byteOf (bit st.clamped + 2 * bit st.unpark), byteOf retry, byteOf j.pos]

/-- The step queue in parts: the in-flight step, then the pending ones, oldest first. DESIGN CHOICE (log entry 44): with no step in
flight the bytes of part 0 other than source and join are 0. DESIGN CHOICE (log entry 45): a pending step, which has no retry
count, gives 0 for it. -/
def queueParts (m : Mod) : List (List Byte) :=
  (match m.inFlight with
   | some f => stepPart f.step f.retry m.join
   | none => [0, 0, 0, 0, 255, 0, 0, byteOf m.join.pos])
    :: m.queue.map (fun st => stepPart st 0 m.join)

/-- The code of an answer that may be none. -/
def answerCode (a : Option Answer) : Nat := (a.map (fun x => x.code + 1)).getD 0

/-- The replies gathered in parts. -/
def replyParts (s : State) : List (List Byte) :=
  allStations.map (fun n =>
    if n = own s then [255, 255, 255]
    else
      let r := s.hoe.replies.get n
      byteOf (answerCode (r.map Reply.answer)) :: wordBytes (word16 ((r.map Reply.force).getD 0)))

/-- The replier records in parts. -/
def replierParts (s : State) : List (List Byte) :=
  allStations.map (fun n =>
    if n = own s then [255, 255, 255, 255, 255]
    else
      let r := s.hoe.repliers.get n
      [byteOf ((r.toggle.map bit).getD 255), byteOf ((r.reason.map LeaveReason.code).getD 255)]
        ++ wordBytes (word16 r.force) ++ [byteOf (answerCode r.answer)])

/-- The parts of a record item as it stands. -/
def recordParts (s : State) (i : Nat) : List (List Byte) :=
  match i with
  | 232 => cabParts s
  | 233 => planParts s
  | 234 => queueParts s.mod
  | 236 => replyParts s
  | 237 => replierParts s
  | _ => rowParts (entryOf s (Fin.ofNat 8 i))

/-- The reading of a record uses a free value: the cab record's age where it has none that two bytes hold. -/
def usesFreeAge (s : State) (i : Nat) : Bool := decide (i = 232) && (cabAge s).isNone

/-- A part of the copy the cursor holds is answered (R168); none beyond the last. -/
def answerFromCursor (q : DiagRequest) (c : Cursor) (s : State) : State :=
  match c.parts[q.part.toNat]? with
  | some bytes => answerPart q (decide (q.part.toNat + 1 = c.parts.length)) bytes s
  | none => answer q .notHeld none none s

/-- DGR copies a record and opens the cursor on it (R168). -/
def openCursor (i : Nat) (s : State) : State :=
  { s with
    dgr := { s.dgr with cursor := some { item := i, parts := recordParts s i } }
    freeCount := if usesFreeAge s i then s.freeCount + 1 else s.freeCount }

/-- A RECORD request is taken (R168). -/
def readRecord (q : DiagRequest) (s : State) : State :=
  let i := q.item.toNat
  if isRecord i then
    if q.part = 0 then answerFromCursor q { item := i, parts := recordParts s i } (openCursor i s)
    else
      match s.dgr.cursor with
      | some c => if c.item = i then answerFromCursor q c s else answer q .notHeld none none s
      | none => answer q .notHeld none none s
  else turnAway q s

/-- DIAG_RECORD (R168). -/
def execDiagRecord (q : DiagRequest) (s : State) : Host.Outcome State Fault Refusal :=
  .next (diagDeliver q (readRecord q) s)

/-- DIAG_UNKNOWN_OPCODE (R165): NOT_HELD with value all ones, and nothing changes. -/
def execDiagUnknownOpcode (q : DiagRequest) (_opcode : Byte) (s : State) : Host.Outcome State Fault Refusal :=
  .next (diagDeliver q (fun t => answer q .notHeld none (some allOnes) t) s)

end Sys2Proof.Machine
end

