-- ==== Sys2Proof/Machine/Clock.lean ====
section
/-! DEFINITION. The station time and the timers (R1, para 3.4 of the introduction): one millisecond passing, and the expiries
that are due. -/

namespace Sys2Proof.Machine

/-- A peer entry one millisecond older; the time since the last STATUS stops at 2000 ms (R28). -/
def Entry.age (e : Entry) : Entry := { e with sinceStatus := satInc 2000 e.sinceStatus, deadline := timerTick e.deadline }

/-- The entries one millisecond older; the own entry does not age (R25). -/
def agedEntries (self : StationNo) (t : Table Entry) : Table Entry := (t.map Entry.age).set self (t.get self)

/-- PTB one millisecond later. -/
def Ptb.tick (self : StationNo) (p : Ptb) : Ptb :=
  { p with
    entries := agedEntries self p.entries
    cab := { p.cab with staleTimer := timerTick p.cab.staleTimer }
    drum := { p.drum with staleTimer := timerTick p.drum.staleTimer }
    stationaryTimer := timerTick p.stationaryTimer }

/-- HPL one millisecond later. -/
def Plan.tick (p : Plan) : Plan :=
  { p with
    decreaseWait := p.decreaseWait.map (fun w => { w with remaining := w.remaining - 1 })
    limitTimer := timerTick p.limitTimer }

/-- MOD one millisecond later. -/
def Mod.tick (m : Mod) : Mod :=
  { m with
    inFlight := m.inFlight.map (fun f => { f with elapsed := f.elapsed + 1, inBand := f.inBand.map (· + 1) })
    springTimer := timerTick m.springTimer }

/-- RSQ one millisecond later. -/
def Rsq.tick (r : Rsq) : Rsq :=
  { r with
    driveOffTimer := timerTick r.driveOffTimer
    turnTimer := timerTick r.turnTimer
    lapseTimer := timerTick r.lapseTimer
    abortFlagTimer := timerTick r.abortFlagTimer
    reholdWindow := timerTick r.reholdWindow }

/-- One millisecond passes: the station time and every running timer move on. -/
def advance (s : State) : State :=
  { s with
    now := s.now + 1
    stc := { s.stc with holdTimer := timerTick s.stc.holdTimer, loweringTimer := timerTick s.stc.loweringTimer }
    ptb := s.ptb.tick (own s)
    glu := { s.glu with plausibilityTimer := timerTick s.glu.plausibilityTimer }
    hpl := s.hpl.tick
    mod := s.mod.tick
    crm := { s.crm with standstillTimer := timerTick s.crm.standstillTimer }
    hoe := { s.hoe with attemptTimer := timerTick s.hoe.attemptTimer, retryWait := timerTick s.hoe.retryWait }
    rsq := s.rsq.tick
    lnk := { s.lnk with receiveTimer := timerTick s.lnk.receiveTimer, announceTimer := timerTick s.lnk.announceTimer }
    suc := { s.suc with readTimer := timerTick s.suc.readTimer, configTimer := timerTick s.suc.configTimer } }

/-- A command with the condition that it is due. -/
structure Due where
  due : Bool
  command : Instr
  deriving DecidableEq, Repr

/-- The expiries of one entry (R27, R28). -/
def entryDues (s : State) (n : StationNo) : List Due :=
  let e := entryOf s n
  [{ due := decide (n ≠ own s) && e.isFresh && timerDue e.deadline, command := .entryStalenessDeadline n },
   { due := decide (n ≠ own s) && decide (e.presence ≠ .absent) && decide (2000 ≤ e.sinceStatus),
     command := .entryAbsent n }]

/-- Every expiry, with the condition that it is due. The limit of the parameter memory read ends it with the bytes it had by
then, which are free, and fewer than the whole memory (log entry 6). -/
def allDues (s : State) : List Due :=
  [{ due := decide (s.suc.pmem = .reading) && timerDue s.suc.readTimer,
     command := .parameterMemoryReadEnd ((Config.bytesByLimit s.freeCount).take (memoryBytes - 1)) .timeLimit },
   { due := decide (s.suc.configWait = .running) && timerDue s.suc.configTimer, command := .configWaitExpiry },
   { due := timerDue s.crm.standstillTimer, command := .standstillTimerExpiry },
   { due := timerDue s.ptb.stationaryTimer, command := .vehicleStationaryTimerExpiry },
   { due := timerDue s.mod.springTimer, command := .springApplyTimerExpiry },
   { due := timerDue s.stc.holdTimer, command := .holdTimeTimerExpiry },
   { due := timerDue s.stc.loweringTimer, command := .loweringTimerExpiry },
   { due := timerDue s.glu.plausibilityTimer, command := .plausibilityTimerExpiry },
   { due := timerDue s.hpl.limitTimer, command := .limitTimerExpiry },
   { due := decide (s.hpl.decreaseWait.map DecreaseWait.remaining = some 0), command := .decreaseWaitExpiry },
   { due := s.ptb.cab.fresh && timerDue s.ptb.cab.staleTimer, command := .cabRecordStaling },
   { due := s.ptb.drum.fresh && timerDue s.ptb.drum.staleTimer, command := .drumRecordStaling },
   { due := exchanging s && timerDue s.hoe.attemptTimer, command := .attemptTimerExpiry },
   { due := timerDue s.hoe.retryWait, command := .retryWaitExpiry },
   { due := timerDue s.rsq.driveOffTimer, command := .driveOffTimerExpiry },
   { due := timerDue s.rsq.turnTimer, command := .turnTimerExpiry },
   { due := timerDue s.rsq.lapseTimer, command := .lapseTimerExpiry },
   { due := timerDue s.rsq.abortFlagTimer, command := .abortFlagTimerExpiry },
   { due := timerDue s.rsq.reholdWindow, command := .reholdWindowExpiry },
   { due := timerDue s.lnk.receiveTimer, command := .receiveTimerExpiry },
   { due := timerDue s.lnk.announceTimer, command := .announceTimerExpiry }]
    ++ (allStations.map (entryDues s)).flatten

/-- The commands that are due now. -/
def dueCommands (s : State) : List Instr := ((allDues s).filter Due.due).map Due.command

/-- The due command that is taken first: the Description lets any of several be the first, so the choice is free
(log entry 3). -/
def chooseDue (s : State) : Option Instr := (dueCommands s)[Config.expiryChoice s.freeCount % (dueCommands s).length]?

/-- The count of free values moves on. -/
def spendFree (s : State) : State := { s with freeCount := s.freeCount + 1 }

end Sys2Proof.Machine
end

