-- ==== Sys2Proof/Machine/Dispatch.lean ====
section
/-! DEFINITION. The dispatch: one arm for each command of the table, each one direct call of its meaning. -/

namespace Sys2Proof.Machine

/-- The effect of a command on everything but the queue of commands that wait. -/
def exec (i : Instr) (s : State) : Host.Outcome State Fault Refusal :=
  match i with
  | .reset pins => Sys2Proof.Machine.execReset pins s
  | .parameterMemoryReadEnd bytes ending => Sys2Proof.Machine.execParameterMemoryReadEnd bytes ending s
  | .configWaitExpiry => Sys2Proof.Machine.execConfigWaitExpiry s
  | .inhibitSample asserted => Sys2Proof.Machine.execInhibitSample asserted s
  | .accelerometerSample reading => Sys2Proof.Machine.execAccelerometerSample reading s
  | .loadSample raw => Sys2Proof.Machine.execLoadSample raw s
  | .chamberPressureSample raw => Sys2Proof.Machine.execChamberPressureSample raw s
  | .supplySample raw => Sys2Proof.Machine.execSupplySample raw s
  | .valveDriverFault driver report => Sys2Proof.Machine.execValveDriverFault driver report s
  | .wheelPulse wheel dir => Sys2Proof.Machine.execWheelPulse wheel dir s
  | .standstillTimerExpiry => Sys2Proof.Machine.execStandstillTimerExpiry s
  | .vehicleStationaryTimerExpiry => Sys2Proof.Machine.execVehicleStationaryTimerExpiry s
  | .springApplyTimerExpiry => Sys2Proof.Machine.execSpringApplyTimerExpiry s
  | .holdTimeTimerExpiry => Sys2Proof.Machine.execHoldTimeTimerExpiry s
  | .loweringTimerExpiry => Sys2Proof.Machine.execLoweringTimerExpiry s
  | .plausibilityTimerExpiry => Sys2Proof.Machine.execPlausibilityTimerExpiry s
  | .limitTimerExpiry => Sys2Proof.Machine.execLimitTimerExpiry s
  | .decreaseWaitExpiry => Sys2Proof.Machine.execDecreaseWaitExpiry s
  | .cabNotice origin payload => Sys2Proof.Machine.execCabNotice origin payload s
  | .cabRecordStaling => Sys2Proof.Machine.execCabRecordStaling s
  | .drumNotice origin payload => Sys2Proof.Machine.execDrumNotice origin payload s
  | .drumRecordStaling => Sys2Proof.Machine.execDrumRecordStaling s
  | .statusNotice origin payload => Sys2Proof.Machine.execStatusNotice origin payload s
  | .entryStalenessDeadline n => Sys2Proof.Machine.execEntryStalenessDeadline n s
  | .entryAbsent n => Sys2Proof.Machine.execEntryAbsent n s
  | .alarmNotice origin payload => Sys2Proof.Machine.execAlarmNotice origin payload s
  | .handoffRequest origin body => Sys2Proof.Machine.execHandoffRequest origin body s
  | .handoffReply origin body => Sys2Proof.Machine.execHandoffReply origin body s
  | .handoffCancel origin body => Sys2Proof.Machine.execHandoffCancel origin body s
  | .attemptTimerExpiry => Sys2Proof.Machine.execAttemptTimerExpiry s
  | .retryWaitExpiry => Sys2Proof.Machine.execRetryWaitExpiry s
  | .driveOffTimerExpiry => Sys2Proof.Machine.execDriveOffTimerExpiry s
  | .turnTimerExpiry => Sys2Proof.Machine.execTurnTimerExpiry s
  | .lapseTimerExpiry => Sys2Proof.Machine.execLapseTimerExpiry s
  | .abortFlagTimerExpiry => Sys2Proof.Machine.execAbortFlagTimerExpiry s
  | .reholdWindowExpiry => Sys2Proof.Machine.execReholdWindowExpiry s
  | .configNotice origin payload => Sys2Proof.Machine.execConfigNotice origin payload s
  | .foreignOwnOriginFrame cls payload => Sys2Proof.Machine.execForeignOwnOriginFrame cls payload s
  | .invalidFrame reason => Sys2Proof.Machine.execInvalidFrame reason s
  | .transmitStart => Sys2Proof.Machine.execTransmitStart s
  | .arbitrationLost => Sys2Proof.Machine.execArbitrationLost s
  | .transmitError => Sys2Proof.Machine.execTransmitError s
  | .frameCompleted acknowledged => Sys2Proof.Machine.execFrameCompleted acknowledged s
  | .receiveTimerExpiry => Sys2Proof.Machine.execReceiveTimerExpiry s
  | .announceTimerExpiry => Sys2Proof.Machine.execAnnounceTimerExpiry s
  | .diagRead q => Sys2Proof.Machine.execDiagRead q s
  | .diagClear q => Sys2Proof.Machine.execDiagClear q s
  | .diagWrite q => Sys2Proof.Machine.execDiagWrite q s
  | .diagRecord q => Sys2Proof.Machine.execDiagRecord q s
  | .diagTest q => Sys2Proof.Machine.execDiagTest q s
  | .diagUnknownOpcode q opcode => Sys2Proof.Machine.execDiagUnknownOpcode q opcode s
  | .unclaimedValidFrame f => Sys2Proof.Machine.execUnclaimedValidFrame f s

end Sys2Proof.Machine
end

