-- ==== Sys2Proof/Machine/Idle.lean ====
section
/-! DEFINITION. What the block does of its own accord when no command waits (log entry 2). -/

namespace Sys2Proof.Machine

/-- With no command waiting the block takes one expiry that is due, or, with none due, one millisecond passes. -/
def idle (s : State) : Host.Outcome State Fault Refusal :=
  match chooseDue s with
  | some c => exec c (spendFree s)
  | none => .next (advance s)

end Sys2Proof.Machine
end

