-- ==== Sys2Proof/Safety.lean ====
section
/-! DEFINITION. What a good state of the station is, in the terms the statements use: the events taken to their end, the park
valve and the join as the state asks, the modulator's queue, the ranges of the counts and the parameters. -/

namespace Sys2Proof.Machine

/-- Every event is taken to its end: no report waits, the own entry, the derived values and the validity flags agree with the
values they are formed from (R25, R34 to R39, R46, R49), and the timers that follow a condition and the FAULT line agree with
theirs (R23, R64, R123, R130). -/
def Settled (s : State) : Prop := s.agenda = {} ∧ sync s = s ∧ levels s = s

/-- The park valve is as the state asks (R2, R14, Table 1-2); SERVICE keeps the setting it was entered with. -/
def ParkRight (s : State) : Prop := ∀ b, parkOf s.stc.origin s.stc.state = some b → s.mod.parkCmd = b

/-- The join is as the state asks (R2, R14, R15, R18, Table 1-2); in SERVICE it may also be TEST. -/
def JoinRight (s : State) : Prop :=
  s.mod.join = joinOf s.hoe.phase s.stc.state ∨ (s.stc.state = .service ∧ s.mod.join = .test)

/-- Every step MOD holds carries the tag of the joined source, the queue holds at most sixteen, and under an idle join nothing
is held (R73 to R75). -/
def QueueRight (m : Mod) : Prop :=
  m.queue.length ≤ queueLimit
    ∧ (∀ st ∈ m.queue, m.join.source = some st.source)
    ∧ (∀ f, m.inFlight = some f → m.join.source = some f.step.source)
    ∧ (m.join.source = none → m.queue = [] ∧ m.inFlight = none ∧ m.standing = none)

/-- The springs are counted only on an axle that has them, and never while the park valve is energised (R86, R88). -/
def SpringsRight (s : State) : Prop := s.mod.springsCounted = true → s.suc.spring = true ∧ s.mod.parkCmd = false

/-- The vehicle parameters lie in their ranges (Table 10-3). -/
def VehicleParams.inRanges (v : VehicleParams) : Prop := v.clamped = v

/-- The counts lie in the ranges their tables give (Tables 4-3, 5-1, 6-1, 7-1, 8-1, 9-1). -/
def CountsRight (s : State) : Prop :=
  s.crm.eOwn ≤ 7 ∧ s.crm.slipRun ≤ slipRunLimit ∧ s.crm.slipAccumulated ≤ slipTotal
    ∧ s.hoe.attempts ≤ attemptLimit ∧ (∀ f, s.mod.inFlight = some f → f.retry ≤ 2)
    ∧ s.crm.left.natAbs ≤ 32767 ∧ s.crm.right.natAbs ≤ 32767
    ∧ s.alarm.count ≤ 65535 ∧ s.rsq.abortCount ≤ 65535 ∧ s.mod.dropped ≤ 65535
    ∧ s.lnk.failures ≤ 255 ∧ s.lnk.recoveryFrames ≤ 4
    ∧ s.lnk.validFrames ≤ 65535 ∧ s.lnk.checkFailures ≤ 65535 ∧ s.lnk.unclaimed ≤ 65535

/-- The plan record and the parameters behind it: the axle parameters that blocks use were found in their ranges (R160), the
vehicle parameters lie in theirs, K lies between 64 and 160 (R54), the required force is that of M, Ge and K (R55), the share
does not exceed C, nor C or A the friction limit (R57, R59, R63), and no top pressure or target exceeds 1000 kPa (R56, R75). -/
def PlanRight (s : State) : Prop :=
  (∀ a, s.suc.axle = some a → a.inRanges = true)
    ∧ s.suc.vehicle.inRanges
    ∧ 64 ≤ s.hpl.k ∧ s.hpl.k ≤ 160
    ∧ s.hpl.fReq = requiredForce s.hpl.m s.hpl.ge s.hpl.k
    ∧ s.hpl.share ≤ s.hpl.c ∧ s.hpl.c ≤ s.hpl.l ∧ s.hpl.a ≤ s.hpl.l
    ∧ s.hpl.pTop ≤ 1000
    ∧ (∀ st ∈ s.mod.queue, st.target ≤ 1000)
    ∧ (∀ f, s.mod.inFlight = some f → f.step.target ≤ 1000)

/-- The marks, phases and timers that belong to a station state stand only in it: the plan lock and a release phase exactly in
RELEASING (R52, R124), the watch exactly in the watched states (R93), an exchange or ramp exactly in LEAVING and a deferred ask
only in a hold (Table 6-1, R105), the un-park mark in SECURED (R11), the limit mark in LEAVING (R9), SHORTFALL in the states of
R52, SPRING_SHORTFALL in SECURED (R65), the hold-time timer in HOLDING and LEAVING (R9), a decrease wait in a hold (R66), and
the re-hold window, with its release-completed time, in FREE (R133); the abort flag stands as long as its timer (R132), and a
lifted axle runs no lowering timer: R16 stops it where the lift bit sets LIFTED, and at a LIFT hand-off that is the model's choice
(log entry 30). -/
def RecordsRight (s : State) : Prop :=
  (s.hpl.planLock = true ↔ s.stc.state = .releasing)
    ∧ (s.rsq.phase ≠ .idle ↔ s.stc.state = .releasing)
    ∧ s.crm.watch = s.stc.state.monitored
    ∧ ((s.hoe.phase = .exchange ∨ s.hoe.phase = .ramp) ↔ s.stc.state = .leaving)
    ∧ (s.hoe.phase = .deferred → s.stc.state = .holding ∨ s.stc.state = .secured)
    ∧ (s.stc.unparkMark = true → s.stc.state = .secured)
    ∧ (s.stc.limitMark = true → s.stc.state = .leaving)
    ∧ (s.stc.faults.shortfall = true → s.stc.state.sharing = true)
    ∧ (s.stc.faults.springShortfall = true → s.stc.state = .secured)
    ∧ (s.stc.holdTimer.isSome = true → s.stc.state = .holding ∨ s.stc.state = .leaving)
    ∧ (s.hpl.decreaseWait.isSome = true → s.stc.state = .holding ∨ s.stc.state = .secured)
    ∧ (s.rsq.reholdWindow.isSome = true → s.stc.state = .free)
    ∧ s.rsq.reholdWindow.isSome = s.rsq.releaseCompleted.isSome
    ∧ s.rsq.abortFlag = s.rsq.abortFlagTimer.isSome
    ∧ (s.stc.lifted = true → s.stc.loweringTimer = none)

/-- The flags that stay set until the service tool clears them or the station is reset (Table 1-3). -/
def Flag.sticky : Flag → Bool
  | .shortfall | .springShortfall => false
  | _ => true

/-- No exit to FAILED or ALARM is open: no fault of R20 is set, no FRESH peer shows an alarm that is not acknowledged, and under
the watch, which is set in the watched states alone (R93), the axle stands less than the rollaway threshold from the rollaway
base. The distance is taken either way, since a command that changes G may turn the downhill direction (R95), and the rollaway
test follows (R97). -/
def Calm (s : State) : Prop :=
  failureRaised s = false ∧ unacknowledgedAlarms s = []
    ∧ (s.crm.watch = true → s.stc.state.monitored = true
        ∧ (s.crm.d - s.crm.rollBase).natAbs < s.suc.vehicle.rollawayThreshold)
    ∧ 0 < s.suc.vehicle.rollawayThreshold

/-- The station is listening, and `o` is not its own origin: a valid frame of that origin is delivered (R145, R149). -/
def Hears (o : Origin) (s : State) : Prop := listening s = true ∧ o.val ≠ (own s).val

/-- A DIAG request comes from a service tool and names this station, which is listening (R149, R165). -/
def Asked (q : DiagRequest) (s : State) : Prop :=
  listening s = true ∧ 14 ≤ q.origin.val ∧ q.target.toNat = (own s).val

/-- The station keeps the state, the park valve and the join it has. -/
def SameStation (s t : State) : Prop :=
  t.stc.state = s.stc.state ∧ t.mod.parkCmd = s.mod.parkCmd ∧ t.mod.join = s.mod.join

/-- The station is in HOLDING under PLANNER, the park valve energised, the hold entered now with the hold-time timer in full (R9,
R13). -/
def HoldsAgain (s t : State) : Prop :=
  t.stc.state = .holding ∧ t.mod.join = .planner ∧ t.mod.parkCmd = true
    ∧ t.stc.holdTimer = some (s.suc.vehicle.holdLimit * 1000) ∧ t.stc.holdEntryTime = s.now

/-- The release under way in `s` is aborted in `t` (R132): the own abort flag for 1000 ms, the reason, the count and one creep event,
RSQ idle with its timers stopped and no entry gear, the plan unlocked and a STATUS called for; with no securing condition and
no hand-off reason the station is back in the hold. -/
def Aborts (why : AbortReason) (s t : State) : Prop :=
  t.rsq.abortFlag = true ∧ t.rsq.abortFlagTimer = some 1000 ∧ t.rsq.lastAbort = some why
    ∧ t.rsq.abortCount = satInc 65535 s.rsq.abortCount ∧ t.rsq.phase = .idle ∧ t.rsq.entryGear = none
    ∧ t.rsq.turnTimer = none ∧ t.rsq.lapseTimer = none ∧ t.stc.state ≠ .releasing ∧ t.hpl.planLock = false
    ∧ t.crm.eOwn = satInc 7 s.crm.eOwn ∧ t.lnk.statusPending = true
    ∧ (securing s = false → handoffReason s = false → HoldsAgain s t)

/-- A chamber pressure `p` brings the second step of a release profile, of which `steps` have ended, to its end, or finds it
ended (R81, R82, R111, R127): nothing is pending under RELEASE, and either both steps have ended, or the second, to 0 kPa, has
been in its band for 60 ms within its time, or has had its time and both retries. -/
def lastStepEnds (p steps : Nat) (s : State) : Bool :=
  decide (s.mod.join = .release) && s.mod.queue.isEmpty
    && (match s.mod.inFlight with
        | none => decide (2 ≤ steps)
        | some f => decide (steps = 1) && decide (f.step.source = .release) && decide (f.step.target = 0)
            && (if f.allowed ≤ f.elapsed then decide (2 ≤ f.retry)
                else decide (movedReference f = 0) && decide (p ≤ 15) && f.inBand.any (fun n => decide (60 ≤ n))))

/-! ### Time -/

/-- A command is the expiry of a timer that runs and has nothing left, with what its rule asks beside it (R9, R16, R27, R28, R31,
R33, R36, R48, R64, R66, R87, R92, R107, R113, R123, R125, R130, R132, R133, R153, R155, R160, R161). -/
def ExpiryDue (c : Instr) (s : State) : Prop :=
  match c with
  | .parameterMemoryReadEnd bytes ending =>
    s.suc.pmem = .reading ∧ s.suc.readTimer = some 0 ∧ ending = .timeLimit
      ∧ bytes = (Config.bytesByLimit s.freeCount).take 25
  | .configWaitExpiry => s.suc.configWait = .running ∧ s.suc.configTimer = some 0
  | .standstillTimerExpiry => s.crm.standstillTimer = some 0
  | .vehicleStationaryTimerExpiry => s.ptb.stationaryTimer = some 0
  | .springApplyTimerExpiry => s.mod.springTimer = some 0
  | .holdTimeTimerExpiry => s.stc.holdTimer = some 0
  | .loweringTimerExpiry => s.stc.loweringTimer = some 0
  | .plausibilityTimerExpiry => s.glu.plausibilityTimer = some 0
  | .limitTimerExpiry => s.hpl.limitTimer = some 0
  | .decreaseWaitExpiry => ∃ w, s.hpl.decreaseWait = some w ∧ w.remaining = 0
  | .cabRecordStaling => s.ptb.cab.fresh = true ∧ s.ptb.cab.staleTimer = some 0
  | .drumRecordStaling => s.ptb.drum.fresh = true ∧ s.ptb.drum.staleTimer = some 0
  | .entryStalenessDeadline n => n ≠ own s ∧ (entryOf s n).presence = .fresh ∧ (entryOf s n).deadline = some 0
  | .entryAbsent n => n ≠ own s ∧ (entryOf s n).presence ≠ .absent ∧ 2000 ≤ (entryOf s n).sinceStatus
  | .attemptTimerExpiry => s.stc.state = .leaving ∧ s.hoe.phase = .exchange ∧ s.hoe.attemptTimer = some 0
  | .retryWaitExpiry => s.hoe.retryWait = some 0
  | .driveOffTimerExpiry => s.rsq.driveOffTimer = some 0
  | .turnTimerExpiry => s.rsq.turnTimer = some 0
  | .lapseTimerExpiry => s.rsq.lapseTimer = some 0
  | .abortFlagTimerExpiry => s.rsq.abortFlagTimer = some 0
  | .reholdWindowExpiry => s.rsq.reholdWindow = some 0
  | .receiveTimerExpiry => s.lnk.receiveTimer = some 0
  | .announceTimerExpiry => s.lnk.announceTimer = some 0
  | _ => False

/-! ### Answers -/

/-- Of the whole station only LNK differs, and there only by the frame heard, the DIAG slot, and the mark that newer content came
to a slot on the link (R147, R150, R151); the model's count of free values apart. -/
def OnlyAnswers (s t : State) : Prop :=
  t = { s with
      freeCount := t.freeCount
      lnk := { s.lnk.heard with diagSlot := t.lnk.diagSlot, transmission := t.lnk.transmission } }
    ∧ t.lnk.transmission.map Transmission.frame = s.lnk.transmission.map Transmission.frame
    ∧ t.lnk.transmission.map Transmission.slot = s.lnk.transmission.map Transmission.slot

/-! ### Who writes what -/

/-- The parts of the state that come from outside the axle's own working, each written by commands of its own. -/
inductive Part
  | cabRecord
  | drumRecord
  | chamberPressure
  | supplyPressure
  | accelerometerWindow
  | loadWindow
  | standstillFlag
  | peerEntries
  | setup
  | cursor
  | diagnosticAnswer
  | freeValues
  deriving DecidableEq, Repr

/-- A command may write a part (R30 to R33, R44, R49, R69, R70, R92, R26 to R29, R160 to R164, R168, R150). -/
def writes (c : Instr) (p : Part) : Bool :=
  match p, c with
  | .cabRecord, .cabNotice _ _ | .cabRecord, .cabRecordStaling => true
  | .drumRecord, .drumNotice _ _ | .drumRecord, .drumRecordStaling => true
  | .chamberPressure, .chamberPressureSample _ => true
  | .supplyPressure, .supplySample _ => true
  | .accelerometerWindow, .accelerometerSample _ | .accelerometerWindow, .wheelPulse _ _ => true
  | .loadWindow, .loadSample _ => true
  | .standstillFlag, .wheelPulse _ _ | .standstillFlag, .standstillTimerExpiry => true
  | .peerEntries, .statusNotice _ _ | .peerEntries, .entryStalenessDeadline _ | .peerEntries, .entryAbsent _
  | .peerEntries, .handoffRequest _ _ | .peerEntries, .handoffCancel _ _ => true
  | .setup, .parameterMemoryReadEnd _ _ | .setup, .configWaitExpiry | .setup, .inhibitSample _
  | .setup, .configNotice _ _ => true
  | .cursor, .diagRecord _ => true
  | .diagnosticAnswer, .frameCompleted _ | .diagnosticAnswer, .diagRead _ | .diagnosticAnswer, .diagClear _
  | .diagnosticAnswer, .diagWrite _ | .diagnosticAnswer, .diagRecord _ | .diagnosticAnswer, .diagTest _
  | .diagnosticAnswer, .diagUnknownOpcode _ _ => true
  | .freeValues, .diagRead _ | .freeValues, .diagClear _ | .freeValues, .diagWrite _ | .freeValues, .diagRecord _
  | .freeValues, .diagTest _ | .freeValues, .diagUnknownOpcode _ _ => true
  | _, _ => false

/-- A part is the same in two states. -/
def Part.same (s t : State) : Part → Prop
  | .cabRecord => t.ptb.cab = s.ptb.cab
  | .drumRecord => t.ptb.drum = s.ptb.drum
  | .chamberPressure => t.mod.pMeas = s.mod.pMeas
  | .supplyPressure => t.mod.pSup = s.mod.pSup ∧ t.mod.lastSupplyRaw = s.mod.lastSupplyRaw
  | .accelerometerWindow =>
    t.glu.accWindow = s.glu.accWindow ∧ t.glu.accAverage = s.glu.accAverage ∧ t.glu.ownGrade = s.glu.ownGrade
      ∧ t.glu.accAnswering = s.glu.accAnswering
  | .loadWindow =>
    t.glu.loadWindow = s.glu.loadWindow ∧ t.glu.loadAverage = s.glu.loadAverage ∧ t.glu.lastLoadRaw = s.glu.lastLoadRaw
  | .standstillFlag => t.crm.standstill = s.crm.standstill ∧ t.crm.standstillTimer = s.crm.standstillTimer
  | .peerEntries => ∀ n, n ≠ own s → entryOf t n = entryOf s n
  | .setup => t.suc = s.suc
  | .cursor => t.dgr = s.dgr
  | .diagnosticAnswer => t.lnk.diagSlot = s.lnk.diagSlot
  | .freeValues => t.freeCount = s.freeCount

/-- A command is not RESET. -/
def notReset : Instr → Bool
  | .reset _ => false
  | _ => true

end Sys2Proof.Machine
end

