-- ==== Sys2Proof/Certificates/Slice0/Obligations.lean ====
section
/-! DEFINITION. The statements for the provers. Every docstring names the rules of the Description it rests on; where one rests
on a choice of the model, it says so and names the log entry. -/

section

open Sys2Proof Sys2Proof.Machine

/-! ### The step, the frames and their fields -/

/-- One step takes the command at the front of the queue: its outcome is that of the command with the rest of the queue. -/
def Obligations.StepRunsFront : Prop :=
  ∀ (c : Instr) (rest : List Instr) (s : State), step { s with pending := c :: rest } = exec c { s with pending := rest }

/-- With no command waiting, a step takes one of the expiries that are due, or, with none due, one millisecond passes. An expiry
is due exactly where its timer runs and has nothing left (an entry's absence, where 2000 ms have passed since its last
STATUS), and one millisecond takes one from every running timer and from a decrease wait, adds one to the time of the step in
flight and to the age of every peer entry, up to 2000 ms, and to the station time, and changes nothing else (R1, R27, R28). That
time passes so is the model's choice (log entry 2); that any of several expiries may be first is log entry 3, and the bytes
that a parameter memory read has by its limit are log entry 6. -/
def Obligations.IdleTakesDueOrTime : Prop :=
  (∀ s : State, s.pending = [] →
      (dueCommands s = [] → ∃ t, step s = .next t ∧ t = advance s ∧ t.now = s.now + 1)
        ∧ (dueCommands s ≠ [] → ∃ c ∈ dueCommands s, step s = exec c (spendFree s)))
    ∧ (∀ (c : Instr) (s : State), c ∈ dueCommands s ↔ ExpiryDue c s)
    ∧ (∀ s t : State, t = advance s →
        t = { s with now := s.now + 1, stc := t.stc, ptb := t.ptb, glu := t.glu, hpl := t.hpl, mod := t.mod, crm := t.crm,
                     hoe := t.hoe, rsq := t.rsq, lnk := t.lnk, suc := t.suc }
        ∧ t.stc = { s.stc with
            holdTimer := s.stc.holdTimer.map (· - 1), loweringTimer := s.stc.loweringTimer.map (· - 1) }
        ∧ t.ptb = { s.ptb with
            entries := t.ptb.entries
            cab := { s.ptb.cab with staleTimer := s.ptb.cab.staleTimer.map (· - 1) }
            drum := { s.ptb.drum with staleTimer := s.ptb.drum.staleTimer.map (· - 1) }
            stationaryTimer := s.ptb.stationaryTimer.map (· - 1) }
        ∧ entryOf t (own s) = entryOf s (own s)
        ∧ (∀ n, n ≠ own s → entryOf t n = { entryOf s n with
            sinceStatus := if (entryOf s n).sinceStatus < 2000 then (entryOf s n).sinceStatus + 1 else (entryOf s n).sinceStatus
            deadline := (entryOf s n).deadline.map (· - 1) })
        ∧ t.glu = { s.glu with plausibilityTimer := s.glu.plausibilityTimer.map (· - 1) }
        ∧ t.hpl = { s.hpl with
            limitTimer := s.hpl.limitTimer.map (· - 1)
            decreaseWait := s.hpl.decreaseWait.map (fun w => { w with remaining := w.remaining - 1 }) }
        ∧ t.mod = { s.mod with
            inFlight := s.mod.inFlight.map (fun f => { f with elapsed := f.elapsed + 1, inBand := f.inBand.map (· + 1) })
            springTimer := s.mod.springTimer.map (· - 1) }
        ∧ t.crm = { s.crm with standstillTimer := s.crm.standstillTimer.map (· - 1) }
        ∧ t.hoe = { s.hoe with
            attemptTimer := s.hoe.attemptTimer.map (· - 1), retryWait := s.hoe.retryWait.map (· - 1) }
        ∧ t.rsq = { s.rsq with
            driveOffTimer := s.rsq.driveOffTimer.map (· - 1), turnTimer := s.rsq.turnTimer.map (· - 1)
            lapseTimer := s.rsq.lapseTimer.map (· - 1), abortFlagTimer := s.rsq.abortFlagTimer.map (· - 1)
            reholdWindow := s.rsq.reholdWindow.map (· - 1) }
        ∧ t.lnk = { s.lnk with
            receiveTimer := s.lnk.receiveTimer.map (· - 1), announceTimer := s.lnk.announceTimer.map (· - 1) }
        ∧ t.suc = { s.suc with
            readTimer := s.suc.readTimer.map (· - 1), configTimer := s.suc.configTimer.map (· - 1) })

/-- A frame read from its own bits is valid and is the frame sent, for every class, origin and payload of at most twelve bytes;
the command taken is the one of its row (R146, R147, R149). -/
def Obligations.FrameReadsBack : Prop :=
  ∀ (self : StationNo) (f : Frame), f.payload.length ≤ payloadLimit →
    readFrame f.bits = .valid f ∧ commandOfBits self f.bits = frameRow self f

/-- The bytes of every notice read back as the fields they were formed from (R25, R26, R157, Tables 9-4, 9-5, 9-7 and 9-8): a
STATUS as the announced fields of its entry, a grade only with its validity flag; CAB content; the three HANDOFF notices; an
own ALARM notice. -/
def Obligations.NoticesReadBack : Prop :=
  (∀ e : Entry, e.load ≤ 4000 → e.creep ≤ 7 → e.capacity < 65536 → e.share < 65536 → e.achieved < 65536 →
      (∀ g, e.grade = some g → -600 ≤ g ∧ g ≤ 600) →
      (statusPayload e).length = 12
        ∧ readStatus (statusPayload e)
            = some { e with
                presence := .absent, sinceStatus := 2000, deadline := none, leaving := false,
                grade := if e.flags.gradeValid then some (e.grade.getD 0) else none })
    ∧ (∀ c : CabValues, c.driveForce < 65536 → readCab (cabPayload c) = c)
    ∧ (∀ (self : StationNo) (x : Bool) (r : LeaveReason) (a : Nat), a < 65536 →
        readRequest (handoffPayload self a (.request x r)).tail
          = some { leaver := self, toggle := x, reason := r, force := a })
    ∧ (∀ (self m : StationNo) (x : Bool) (y : Answer) (a b : Nat), a < 65536 →
        readReply (handoffPayload self b (.reply m x y a)).tail
          = some { leaver := m, replier := self, toggle := x, answer := y, force := a })
    ∧ (∀ (self : StationNo) (x : Bool) (a : Nat),
        readCancel (handoffPayload self a (.cancel x)).tail = some { leaver := self, toggle := x })
    ∧ (∀ (self : StationNo) (a : AlarmNotice), a.travel < 65536 → -32768 ≤ a.grade → a.grade < 32768 →
        readAlarm self (alarmPayload self a)
          = some { cause := .notice, origin := self, reason := some a.reason, travel := some a.travel,
                   grade := some a.grade })

/-! ### Reset -/

/-- What reset leaves in every block (the reset columns of Tables 1-1, 2-1, 3-1, 3-2, 4-1, 5-1, 6-1, 7-1, 8-1, 9-1, 10-1 and 10-3,
and R165), with the station number and the role code formed from the strap pins, SID0 and ROLE0 least significant (R159):
OFFLINE, IDLE-TRAP with every valve de-energised, no fault but STRAP_FAULT on a role code of 5 to 7, the link ACTIVE with its
timers started, the config wait and the parameter memory read begun, INHIBIT negated and the vehicle parameters at their
defaults. The items that the rules imply start with nothing held (log entry 21), and that the queue of waiting commands stays
is the model's choice (log entry 29). The own entry is FRESH with nothing announced (R25), and the content of a blank peer entry
is the model's (log entry 31). The blank content of the cab and drum records and the force of a replier record are not stated. -/
def Obligations.ResetLeaves : Prop :=
  ∀ (p : StrapPins) (sid role : Fin 8) (s : State),
    sid.val = bit p.sid0 + 2 * bit p.sid1 + 4 * bit p.sid2 →
    role.val = bit p.role0 + 2 * bit p.role1 + 4 * bit p.role2 →
    ∃ t, exec (.reset p) s = .next t
      ∧ t.now = 0 ∧ t.pending = s.pending ∧ t.agenda = {}
      ∧ (∀ f, hasFault t f = (decide (f = .strapFault) && decide (5 ≤ role.val)))
      ∧ t.stc = { state := .offline, origin := none, leaveReason := none, holdEntryTime := 0, holdTimer := none,
                  limitMark := false, unparkMark := false, unparkSpent := false, lifted := false, loweringTimer := none,
                  faults := t.stc.faults, faultLine := decide (5 ≤ role.val) }
      ∧ t.alarm = { count := 0, entryCause := none, entryOrigin := none, entryReason := none, entryDistance := none,
                    entryGrade := none, entryTime := none, ackArmed := false, ackPeers := Table.fill false }
      ∧ t.ptb = { entries := t.ptb.entries, cab := t.ptb.cab, drum := t.ptb.drum, pool := [], fixedSet := [],
                  flexibleSet := [], vehicleStationary := false, stationaryTimer := none, eVehicle := 0,
                  alarmPeer := false, abortPeer := false, lastDuplicate := none }
      ∧ t.ptb.cab.fresh = false ∧ t.ptb.cab.arrival = none ∧ t.ptb.cab.staleTimer = none ∧ cabNow t = staleCab
      ∧ t.ptb.drum.fresh = false ∧ t.ptb.drum.arrival = none ∧ t.ptb.drum.staleTimer = none
      ∧ t.ptb.drum.rotating = true
      ∧ (∀ n, n ≠ sid → entryOf t n
          = { presence := .absent, role := 0, spring := false, state := .offline
              flags := { standstill := false, gradeValid := false, limited := false, shortfall := false, isolated := false,
                         springsCounted := false, lifted := false, releaseAbort := false }
              load := 0, loadValid := false, grade := none, capacity := 0, share := 0, achieved := 0, creep := 0
              sinceStatus := 2000, deadline := none, leaving := false })
      ∧ entryOf t sid
          = { presence := .fresh, role := role, spring := p.spring, state := .offline
              flags := { standstill := false, gradeValid := false, limited := false, shortfall := false, isolated := false,
                         springsCounted := false, lifted := false, releaseAbort := false }
              load := 0, loadValid := false, grade := none, capacity := 0, share := 0, achieved := 0, creep := 0
              sinceStatus := 0, deadline := none, leaving := false }
      ∧ t.glu = { accWindow := [], accAverage := none, ownGrade := none, gradeValid := false, accAnswering := true,
                  plausibilityTimer := none, plausibilityFailed := false, loadWindow := [], loadAverage := none,
                  loadValid := false, lastLoadRaw := none }
      ∧ t.hpl = { g := none, lastG := 600, m := 0, k := 64, ge := 0, fReq := 0, fNom := 0, pTop := 0, cb := 0, l := 0, sc := 0,
                  c := 0, r := 0, poolCapacity := 0, share := 0, pT := 0, clamped := false, a := 0, springCapacity := 0,
                  lastSubmitted := 0, decreaseWait := none, limited := false, bestAchieved := 0, limitTimer := none,
                  planLock := false }
      ∧ t.mod = { join := .idleTrap, queue := [], inFlight := none, standing := none, pMeas := 0, pSup := 0,
                  applyCmd := false, releaseCmd := false, parkCmd := false, springsCounted := false, springTimer := none,
                  lastEnergising := none, dropped := 0, lastSupplyRaw := none }
      ∧ t.crm = { left := 0, right := 0, axle := 0, d := 0, standstill := false, standstillTimer := some 500, rebase := 0,
                  eOwn := 0, rollBase := 0, downhill := .either, slipReference := none, slipRun := 0, slipAccumulated := 0,
                  watch := false }
      ∧ t.hoe = { phase := .idle, toggle := false, attempts := 0, attemptTimer := none, replies := Table.fill none,
                  retryWait := none, repliers := t.hoe.repliers, planPending := false, rampSteps := 0 }
      ∧ (∀ n, (t.hoe.repliers.get n).toggle = none ∧ (t.hoe.repliers.get n).reason = none
          ∧ (t.hoe.repliers.get n).answer = none)
      ∧ t.rsq = { phase := .idle, driveOffTimer := none, entryGear := none,
                  rank := if role.val = 1 then some 2 else if role.val = 0 ∨ role.val = 2 then some 1
                          else if role.val = 3 ∨ role.val = 4 then some 0 else none,
                  turnTimer := none, rollbackBase := 0, lapseTimer := none, profileAppended := false, abortFlag := false,
                  abortFlagTimer := none, releaseCompleted := none, reholdWindow := none, lastAbort := none,
                  abortCount := 0, rampSteps := 0 }
      ∧ t.lnk = { alarmSlot := none, handoffSlot := none, statusPending := false, diagSlot := none, transmission := none,
                  failures := 0, link := some .active, receiveTimer := some 1000, recoveryAck := false,
                  recoveryFrames := 0, announceTimer := some 100, validFrames := 0, checkFailures := 0, unclaimed := 0 }
      ∧ t.suc = { sid := sid, role := role, spring := p.spring, pmem := .reading, readTimer := some 50, words := [],
                  axle := none, lock := false, accepted := none, configWait := .running, configTimer := some 2000,
                  inhibitOlder := false, inhibitLatest := false, inhibit := false,
                  vehicle := { k0 := 80, kd := 8, creepThreshold := 40, rollawayThreshold := 200, hillThreshold := 30,
                               gMin := 20, holdLimit := 120, releaseFloor := 100, rollbackLimit := 100 } }
      ∧ t.dgr.cursor = none

/-- Reset, with any straps, gives a state in which every invariant below holds. -/
def Obligations.ResetIsGood : Prop :=
  ∀ x : Straps, Settled (State.afterReset x) ∧ ParkRight (State.afterReset x) ∧ JoinRight (State.afterReset x)
    ∧ QueueRight (State.afterReset x).mod ∧ SpringsRight (State.afterReset x) ∧ CountsRight (State.afterReset x)
    ∧ PlanRight (State.afterReset x) ∧ RecordsRight (State.afterReset x)

/-! ### What every step keeps -/

/-- Every step from a settled state leaves a settled state: the own entry, the pool and its sets, vehicle-stationary, the
validity flags, the limit, drive-off and lapse timers and the FAULT line agree with what they are formed from (R23, R25, R34 to
R39, R46, R49, R64, R123, R130). -/
def Obligations.StepKeepsSettled : Prop :=
  ∀ s t : State, Settled s → step s = .next t → Settled t

/-- Every step keeps the park valve and the join as the state asks (R2, R14, R15, R18, Table 1-2). -/
def Obligations.StepKeepsValves : Prop :=
  ∀ s t : State, ParkRight s → JoinRight s → RecordsRight s → step s = .next t → ParkRight t ∧ JoinRight t

/-- Every step keeps MOD's queue and spring counting: sixteen places, the tags of the joined source, nothing held under an idle
join, and springs counted only on an axle that has them with the park valve de-energised (R73 to R77, R86 to R88). -/
def Obligations.StepKeepsModulator : Prop :=
  ∀ s t : State, QueueRight s.mod → SpringsRight s → step s = .next t → QueueRight t.mod ∧ SpringsRight t

/-- Every step keeps the counts in the ranges of their tables (R81, R90, R98, R101, R107, R132, R135, R145): the wheel counts, E_own,
the slip run and the accumulated slip, the retries of a step, the attempts of an exchange, the aborts, the alarms, the dropped
steps, and the counts of the link. -/
def Obligations.StepKeepsCounts : Prop :=
  ∀ s t : State, CountsRight s → step s = .next t → CountsRight t

/-- Every step keeps the plan record and the parameters behind it (R54 to R59, R63, R75, R160, R162). -/
def Obligations.StepKeepsPlan : Prop :=
  ∀ s t : State, PlanRight s → step s = .next t → PlanRight t

/-- Every step keeps each mark, phase and timer to the station state it belongs to (R9, R11, R16, R52, R65, R66, R93, R105, R124,
R132, R133). That a lifted axle runs no lowering timer after a LIFT hand-off, where R16 says nothing of the timer, is the model's
choice (log entry 30). -/
def Obligations.StepKeepsRecords : Prop :=
  ∀ s t : State, RecordsRight s → step s = .next t → RecordsRight t

/-! ### Rules of the whole machine -/

/-- FAILED is left only by reset (R20). -/
def Obligations.FailedOnlyLeftByReset : Prop :=
  ∀ (c : Instr) (s : State), s.stc.state = .failed → notReset c = true →
    ∃ t, exec c s = .next t ∧ t.stc.state = .failed

/-- A station with a strap fault or a parameter memory fault leaves OFFLINE for no state but FAILED until reset (R4, R20). -/
def Obligations.FaultyStartStaysOffline : Prop :=
  ∀ (c : Instr) (s : State), (s.stc.state = .offline ∨ s.stc.state = .failed) →
    (5 ≤ s.suc.role.val ∨ s.suc.pmem = .fault) → notReset c = true →
    ∃ t, exec c s = .next t ∧ (t.stc.state = .offline ∨ t.stc.state = .failed)
      ∧ (5 ≤ t.suc.role.val ∨ t.suc.pmem = .fault)

/-- A sticky flag once set is cleared by no command but a CLEAR of that flag and reset (R21, R22, Table 1-3). -/
def Obligations.StickyFlagsStay : Prop :=
  ∀ (c : Instr) (s : State) (f : Flag), f.sticky = true → hasFault s f = true → notReset c = true →
    (∀ q, c = .diagClear q → ∀ i, allFlags[i]? = some f → q.item.toNat ≠ 24 + i) →
    ∃ t, exec c s = .next t ∧ hasFault t f = true

/-- Until the next reset the straps hold, the parameter memory is read once, and the vehicle parameters stay once a CONFIG notice
has been accepted (R159, R160, R162, R163). -/
def Obligations.SetupHolds : Prop :=
  ∀ (c : Instr) (s : State), notReset c = true →
    ∃ t, exec c s = .next t
      ∧ t.suc.sid = s.suc.sid ∧ t.suc.role = s.suc.role ∧ t.suc.spring = s.suc.spring
      ∧ (s.suc.pmem ≠ .reading → t.suc.pmem = s.suc.pmem ∧ t.suc.words = s.suc.words ∧ t.suc.axle = s.suc.axle)
      ∧ (s.suc.lock = true → t.suc.lock = true ∧ t.suc.vehicle = s.suc.vehicle ∧ t.suc.accepted = s.suc.accepted)
      ∧ (s.suc.configWait = .ended → t.suc.configWait = .ended)

/-- The frame of every command: it changes a record of a sensor, a notice or the set-up only where it is one of the commands that
write that record (`writes`), and it never changes the queue of commands that wait. That the station time moves only when the
block idles or is reset is the model's choice (log entry 2). -/
def Obligations.EachRecordHasItsWriters : Prop :=
  ∀ (c : Instr) (s : State), notReset c = true →
    ∃ t, exec c s = .next t ∧ t.pending = s.pending ∧ t.now = s.now ∧ t.rsq.rank = s.rsq.rank
      ∧ ∀ p : Part, writes c p = false → p.same s t

/-! ### The computations -/

/-- The FAULT line of a settled station stands exactly with its five conditions, and after reset only with a strap fault
(R23). -/
def Obligations.FaultLineFollows : Prop :=
  (∀ s : State, Settled s →
      (s.stc.faultLine = true ↔
        s.stc.state = .failed
          ∨ (s.stc.state = .offline ∧ (hasFault s .strapFault = true ∨ hasFault s .pmemFault = true))
          ∨ s.stc.state = .alarm
          ∨ hasFault s .shortfall = true
          ∨ (hasFault s .springShortfall = true ∧ s.stc.state = .secured
              ∧ (s.ptb.cab.fresh = false ∨ s.ptb.cab.content.ignition = false))))
    ∧ ∀ x : Straps, (State.afterReset x).stc.faultLine = true ↔ 5 ≤ x.role.val

/-- The derived values and the validity flags of a settled station: the pool holds exactly the FRESH stations in STANDSTILL,
HOLDING or SECURED whose LIFTED flag and leaving mark are clear, the fixed set its LIMITED peers, the flexible set the rest,
vehicle-stationary is only true with the own STANDSTILL flag and that of every FRESH peer set (R34 to R37); GRADE_VALID and
LOAD_VALID stand exactly with their conditions (R46, R49), and the own entry announces the own grade with them (R25). -/
def Obligations.DerivedValuesFollow : Prop :=
  ∀ s : State, Settled s →
    (∀ n : StationNo,
      (n ∈ s.ptb.pool ↔ (entryOf s n).presence = .fresh
          ∧ ((entryOf s n).state = .standstill ∨ (entryOf s n).state = .holding ∨ (entryOf s n).state = .secured)
          ∧ (entryOf s n).flags.lifted = false ∧ (entryOf s n).leaving = false)
        ∧ (n ∈ s.ptb.fixedSet ↔ n ∈ s.ptb.pool ∧ n ≠ own s ∧ (entryOf s n).flags.limited = true)
        ∧ (n ∈ s.ptb.flexibleSet ↔ n ∈ s.ptb.pool ∧ n ∉ s.ptb.fixedSet)
        ∧ (s.ptb.vehicleStationary = true → (entryOf s n).presence = .fresh → (entryOf s n).flags.standstill = true)
        ∧ ((entryOf s n).presence = .fresh → (entryOf s n).creep ≤ s.ptb.eVehicle))
      ∧ (s.glu.gradeValid = true ↔ s.crm.standstill = true ∧ s.glu.accWindow.length = 8 ∧ s.glu.accAnswering = true
          ∧ hasFault s .gradeSensor = false)
      ∧ (s.glu.loadValid = true ↔ s.glu.loadWindow.length = 16 ∧ hasFault s .loadSensor = false)
      ∧ (entryOf s (own s)).flags.gradeValid = s.glu.gradeValid
      ∧ (entryOf s (own s)).grade = (if s.glu.gradeValid then s.glu.ownGrade else none)

/-- The median of grades (R47) is one of the grades and does not depend on their order; at most half of them lie below it and at
most half above. With the grades sorted it is the middle one of an odd count, and of the two middle ones of an even count the
one of greater magnitude, the upper one (which is the positive one of two opposite ones) where both are alike in magnitude. -/
def Obligations.MedianIsAGrade : Prop :=
  (∀ l : List Int, l ≠ [] →
      ∃ g ∈ l, medianGrade l = some g
        ∧ 2 * l.countP (fun x => decide (x < g)) ≤ l.length ∧ 2 * l.countP (fun x => decide (g < x)) ≤ l.length)
    ∧ (∀ l k : List Int, k.Perm l → medianGrade k = medianGrade l)
    ∧ (∀ (l lo hi : List Int) (a : Int), l.Perm (lo ++ a :: hi) → lo.length = hi.length →
        (∀ x ∈ lo, x ≤ a) → (∀ x ∈ hi, a ≤ x) → medianGrade l = some a)
    ∧ (∀ (l lo hi : List Int) (a b : Int), l.Perm (lo ++ a :: b :: hi) → lo.length = hi.length →
        (∀ x ∈ lo, x ≤ a) → a ≤ b → (∀ x ∈ hi, b ≤ x) →
        medianGrade l = some (if b.natAbs < a.natAbs then a else b))

/-- Shares rounded up cover the remainder: where the capacities of a flexible set exceed it, the shares of R59 add up to the
remainder at least, and no share exceeds its own capacity. -/
def Obligations.SharesCoverTheRemainder : Prop :=
  ∀ (caps : List Nat) (r : Nat), r < caps.sum →
    r ≤ (caps.map (shareOf true r caps.sum)).sum
      ∧ (∀ c ∈ caps, shareOf true r caps.sum c ≤ c) ∧ shortfallOf true r caps.sum = false

/-- A full computation (R54 to R59, R62, R63). Capacity, share, target and achieved force: the top pressure, the friction limit as a
cap, the target within P_top and either 0 or no lower than P_floor where P_top allows it, and the brake and the springs
counted carrying the share wherever the target was not clamped; during an un-park the brake carries it alone. Each value from
its inputs: K, Ge, F_req and F_nom, the brake capacity, with the best achieved pressure while LIMITED, the friction limit of the
surface class and the spring force counted; and in normal mode M from the loads of the pool, the remainder after the fixed
set, the pool capacity, with C_u for C during an un-park, and the share and SHORTFALL of R59. -/
def Obligations.TargetCarriesTheShare : Prop :=
  ∀ (s : State) (a : AxleParams), a.inRanges = true →
    (hasFault s .supplySensor = true → (fullPlan s a).pTop = a.pMax / 2)
      ∧ (hasFault s .supplySensor = false → (fullPlan s a).pTop = min a.pMax (s.mod.pSup - 30))
      ∧ (fullPlan s a).c = min ((fullPlan s a).cb + (fullPlan s a).sc) (fullPlan s a).l
      ∧ (fullPlan s a).share ≤ (fullPlan s a).c
      ∧ (fullPlan s a).pT ≤ (fullPlan s a).pTop
      ∧ ((fullPlan s a).pT = 0 ∨ pFloor ≤ (fullPlan s a).pT ∨ (fullPlan s a).pT = (fullPlan s a).pTop)
      ∧ ((fullPlan s a).clamped = false →
          (fullPlan s a).share * 100
            ≤ (fullPlan s a).pT * a.brakeGain + (if s.stc.unparkMark then 0 else (fullPlan s a).sc) * 100)
      ∧ (fullPlan s a).a = min (fullPlan s a).l (s.mod.pMeas * a.brakeGain / 100 + (fullPlan s a).sc)
      ∧ (fullPlan s a).k
          = min 160 (s.suc.vehicle.k0 + (if s.ptb.drum.rotating then s.suc.vehicle.kd else 0) + 8 * min 4 s.ptb.eVehicle)
      ∧ (∃ g, (fullPlan s a).g = some g ∧ (fullPlan s a).lastG = g
          ∧ (fullPlan s a).ge = max g.natAbs s.suc.vehicle.gMin
          ∧ (fullPlan s a).fNom = ceilDiv ((fullPlan s a).m * g.natAbs) 1000)
      ∧ (fullPlan s a).fReq = ceilDiv ((fullPlan s a).m * (fullPlan s a).ge * (fullPlan s a).k) 64000
      ∧ (fullPlan s a).cb
          = (if s.hpl.limited then min s.hpl.bestAchieved (fullPlan s a).pTop else (fullPlan s a).pTop) * a.brakeGain / 100
      ∧ (fullPlan s a).l
          = (if s.glu.loadValid then s.glu.loadAverage.getD 0 else a.ratedLoad / 2)
              * (match (cabNow s).surface with | .dry => 600 | .wet => 400 | .loose => 250) / 1000
      ∧ (fullPlan s a).sc = (if s.suc.spring ∧ s.mod.springsCounted then a.springForce else 0)
      ∧ (∀ (c : Nat) (counted : Bool), isolatedFlags s = false →
          c = (if s.stc.unparkMark then min (fullPlan s a).cb (fullPlan s a).l else (fullPlan s a).c) →
          (counted = true ↔ own s ∈ s.ptb.flexibleSet ∨ s.stc.state = .alarm) →
          (s.suc.axle = some a →
            (fullPlan s a).m
              = ((s.ptb.pool.filter (fun n => decide (n ≠ own s))).map (fun n => (entryOf s n).load)).sum
                + (if own s ∈ s.ptb.pool ∨ s.stc.state = .alarm then
                     (if s.glu.loadValid then s.glu.loadAverage.getD 0 else a.ratedLoad)
                   else 0))
            ∧ (fullPlan s a).r = (fullPlan s a).fReq - (s.ptb.fixedSet.map (fun n => (entryOf s n).achieved)).sum
            ∧ (fullPlan s a).poolCapacity
                = ((s.ptb.flexibleSet.filter (fun n => decide (n ≠ own s))).map (fun n => (entryOf s n).capacity)).sum
                  + (if counted then c else 0)
            ∧ (fullPlan s a).share
                = (if s.stc.state.sharing = true ∧ counted = true ∧ (fullPlan s a).poolCapacity ≠ 0 then
                     (if (fullPlan s a).poolCapacity ≤ (fullPlan s a).r then c
                      else ceilDiv ((fullPlan s a).r * c) (fullPlan s a).poolCapacity)
                   else 0)
            ∧ (shortfallFound s (fullPlan s a) = true
                ↔ s.stc.state.sharing = true ∧ counted = true ∧ (fullPlan s a).poolCapacity ≠ 0
                    ∧ (fullPlan s a).poolCapacity ≤ (fullPlan s a).r))

/-- A station in isolated mode asks its own axle to hold the whole vehicle (R60): M is the rated gross mass, G its own valid grade
or the fallback of R47, the share the lesser of C and F_req, and SHORTFALL is found exactly where a nonzero C does not reach
F_req. That during an un-park the share takes C_u, as in R59, and that R and the pool capacity keep their values, is the
model's reading (log entry 16). -/
def Obligations.IsolatedComputation : Prop :=
  ∀ (s : State) (a : AxleParams), isolatedFlags s = true → s.stc.state.sharing = true →
    (fullPlan s a).m = a.ratedGross
      ∧ (fullPlan s a).g
          = some (if s.glu.gradeValid then s.glu.ownGrade.getD (if 0 ≤ s.hpl.lastG then 600 else -600)
                  else if 0 ≤ s.hpl.lastG then 600 else -600)
      ∧ (fullPlan s a).fReq = ceilDiv (a.ratedGross * (fullPlan s a).ge * (fullPlan s a).k) 64000
      ∧ (fullPlan s a).share
          = min (if s.stc.unparkMark then min (fullPlan s a).cb (fullPlan s a).l else (fullPlan s a).c) (fullPlan s a).fReq
      ∧ (fullPlan s a).r = s.hpl.r ∧ (fullPlan s a).poolCapacity = s.hpl.poolCapacity
      ∧ (shortfallFound s (fullPlan s a) = true
          ↔ (fullPlan s a).c < (fullPlan s a).fReq ∧ (fullPlan s a).c ≠ 0)

/-- The evaluation of a step. The moving reference stays between the start pressure and the final target, and has arrived once the
ramp has covered the distance (R79). The service valves are commanded by Table 4-2, 15 kPa about the reference (R71). At an
evaluation (R80) the highest pressure follows, the reference moves, and the in-band timer runs on, starts or stops with its
condition; then a time that has passed restarts the step from the present pressure, twice at most, and ends it UNREACHED the
third time (R81), and an in-band time of 60 ms ends it REACHED (R82); after an end the oldest pending step begins, or the
target stands (R78, R85), and in every case the valves are commanded by the reference of the moment. That a restart is in band
by R79's measure under the ALARM join too is log entry 35. -/
def Obligations.RampStaysInItsRange : Prop :=
  (∀ f : InFlight,
      min f.start f.step.target ≤ movedReference f ∧ movedReference f ≤ max f.start f.step.target
        ∧ (distance f.step.target f.start ≤ f.step.rate * f.elapsed / 1000 → movedReference f = f.step.target)
        ∧ (f.intermediate ≠ f.step.target →
            movedReference f = (if f.start ≤ f.step.target then min f.step.target (f.start + f.step.rate * f.elapsed / 1000)
                                else max f.step.target (f.start - f.step.rate * f.elapsed / 1000))))
    ∧ (∀ (j : Join) (p t : Nat),
        valveCommands .idleVent (some t) p = { apply := false, release := true }
          ∧ valveCommands .idleVent none p = { apply := false, release := true }
          ∧ valveCommands .idleTrap (some t) p = { apply := false, release := false }
          ∧ valveCommands j none p = { apply := false, release := decide (j = .idleVent) }
          ∧ (j.source.isSome = true →
              valveCommands j (some t) p
                = { apply := decide (p + 15 < t), release := decide (t + 15 < p) && decide (j ≠ .alarm) }))
    ∧ (∀ m : Mod, m.inFlight = none →
        m.evaluate = { mod := { m with applyCmd := (valveCommands m.join m.standing m.pMeas).apply
                                       releaseCmd := (valveCommands m.join m.standing m.pMeas).release } })
    ∧ (∀ (m : Mod) (f g : InFlight), m.inFlight = some f →
        g = { f with
          highest := max f.highest m.pMeas
          intermediate := movedReference f
          inBand :=
            if movedReference f = f.step.target ∧ f.step.target ≤ m.pMeas + 15
                ∧ (m.join = .alarm ∨ m.pMeas ≤ f.step.target + 15)
            then some (f.inBand.getD 0) else none } →
        (f.allowed ≤ f.elapsed → f.retry < 2 →
            m.evaluate.ended = none ∧ m.evaluate.mod.queue = m.queue ∧ m.evaluate.mod.standing = m.standing
              ∧ m.evaluate.mod.inFlight = some {
                  step := f.step, start := m.pMeas, retry := f.retry + 1, highest := g.highest, elapsed := 0
                  allowed := if f.step.rate = 0 then 800
                             else distance f.step.target m.pMeas * 1000 / f.step.rate + 500
                  intermediate := if f.step.rate = 0 ∨ distance f.step.target m.pMeas ≤ 15 then f.step.target else m.pMeas
                  inBand := if distance f.step.target m.pMeas ≤ 15 then some 0 else none })
          ∧ (f.allowed ≤ f.elapsed → 2 ≤ f.retry → m.evaluate.ended = some (g.ending .unreached m.pMeas))
          ∧ (f.elapsed < f.allowed → (∃ n, g.inBand = some n ∧ 60 ≤ n) →
              m.evaluate.ended = some (g.ending .reached m.pMeas))
          ∧ (m.evaluate.ended ≠ none → m.queue = [] →
              m.evaluate.mod.inFlight = none ∧ m.evaluate.mod.standing = some f.step.target ∧ m.evaluate.mod.queue = [])
          ∧ (∀ st rest, m.evaluate.ended ≠ none → m.queue = st :: rest →
              m.evaluate.mod.inFlight.map InFlight.step = some st ∧ m.evaluate.mod.standing = none
                ∧ m.evaluate.mod.queue = rest)
          ∧ (f.elapsed < f.allowed → (∀ n, g.inBand = some n → n < 60) →
              m.evaluate.ended = none ∧ m.evaluate.mod.inFlight = some g ∧ m.evaluate.mod.queue = m.queue
                ∧ m.evaluate.mod.standing = m.standing)
          ∧ m.evaluate.overrun = false
          ∧ m.evaluate.mod = { m with
              inFlight := m.evaluate.mod.inFlight, queue := m.evaluate.mod.queue, standing := m.evaluate.mod.standing
              applyCmd := (valveCommands m.join m.evaluate.mod.reference m.pMeas).apply
              releaseCmd := (valveCommands m.join m.evaluate.mod.reference m.pMeas).release })

/-! ### Start-up and the INHIBIT line -/

/-- The end of the parameter memory read (R160, R87, R88): the bytes make the words, the most significant first; valid words become
the axle parameters and begin spring timing in OFFLINE; any other ending raises PMEM_FAULT and leaves the parameters without a
value; the read is made once. That the spring-apply timer runs meanwhile is log entry 36, and that an odd last byte makes no
word log entry 6. -/
def Obligations.ParameterMemoryRead : Prop :=
  (∀ b : List Byte,
      (wordsOfBytes b).length = b.length / 2
        ∧ ∀ i, i < b.length / 2 →
            ((wordsOfBytes b).getD i 0).toNat = 256 * (b.getD (2 * i) 0).toNat + (b.getD (2 * i + 1) 0).toNat)
    ∧ (∀ (b : List Byte) (w : List Word16) (e : ReadEnding) (s : State), w = wordsOfBytes b →
        (s.suc.pmem = .reading → pmemValid w e = true →
          ∃ t, exec (.parameterMemoryReadEnd b e) s = .next t
            ∧ t.suc = { s.suc with pmem := .valid, readTimer := none, words := w, axle := some (readAxle w) }
            ∧ (s.stc.state = .offline → s.suc.configWait = .running → s.mod.parkCmd = false →
                (if (readAxle w).springApply ≤ s.now.toNat then t.mod.springsCounted = s.suc.spring
                 else t.mod.springTimer = some ((readAxle w).springApply - s.now.toNat))))
        ∧ (s.suc.pmem = .reading → pmemValid w e = false →
          ∃ t, exec (.parameterMemoryReadEnd b e) s = .next t
            ∧ t.suc = { s.suc with pmem := .fault, readTimer := none, words := w } ∧ hasFault t .pmemFault = true)
        ∧ (s.suc.pmem ≠ .reading → exec (.parameterMemoryReadEnd b e) s = .next s))

/-- The config wait ends (R161), and a station whose straps and parameter memory are valid leaves OFFLINE (R4), while one
without stays. Taken whenever the timer runs (log entry 2). -/
def Obligations.ConfigWaitEnds : Prop :=
  ∀ s : State,
    (s.suc.configWait = .running → s.suc.configTimer.isSome = true →
      ∃ t, exec .configWaitExpiry s = .next t
        ∧ t.suc = { s.suc with configWait := .ended, configTimer := none }
        ∧ (Settled s → s.stc.state = .offline → s.suc.role.val < 5 → s.suc.pmem = .valid → t.stc.state ≠ .offline)
        ∧ (s.stc.state = .offline → (5 ≤ s.suc.role.val ∨ s.suc.pmem ≠ .valid) →
            t.stc.state = .offline ∨ t.stc.state = .failed))
    ∧ (s.suc.configWait = .ended → exec .configWaitExpiry s = .next s)

/-- The INHIBIT level follows two equal samples (R164); asserted it takes a quiet FREE or STANDSTILL station to SERVICE at once, and
negated it takes a station out of SERVICE (R17, R18). -/
def Obligations.InhibitLevel : Prop :=
  (∀ (a : Bool) (s : State), ∃ t, exec (.inhibitSample a) s = .next t
      ∧ t.suc = { s.suc with
          inhibitOlder := s.suc.inhibitLatest, inhibitLatest := a,
          inhibit := if s.suc.inhibitLatest = a then a else s.suc.inhibit }
      ∧ (t.suc.inhibit = s.suc.inhibit → t = { s with suc := t.suc }))
    ∧ (∀ s : State, Settled s → Calm s →
        ((s.stc.state = .free ∨ s.stc.state = .standstill) → s.suc.inhibit = false → s.suc.inhibitLatest = true →
          ∃ t, exec (.inhibitSample true) s = .next t ∧ t.stc.state = .service ∧ t.mod.join = .idleVent)
        ∧ (s.stc.state = .service → s.suc.inhibit = true → s.suc.inhibitLatest = false →
          ∃ t, exec (.inhibitSample false) s = .next t ∧ t.stc.state ≠ .service ∧ t.mod.join ≠ .test))

/-! ### Sensors -/

/-- The samples of the accelerometer and of the load sensor. An answered accelerometer sample enters the window, corrected
and clamped, while the axle stands still and its parameters are valid; an unanswered one empties the window and raises
GRADE_SENSOR (R43 to R45). A raw load within the range is converted and enters its window once the axle parameters are
valid; one at either end raises LOAD_SENSOR and empties a window that had been trusted (R49). The latest raw load is a field
the rules imply (log entry 21). -/
def Obligations.SensorWindows : Prop :=
  (∀ s : State,
      (∀ (r : Int) (a : AxleParams), s.crm.standstill = true → s.suc.axle = some a →
        ∃ t, exec (.accelerometerSample (some r)) s = .next t
          ∧ t.glu.accAnswering = true
          ∧ t.glu.accWindow = enterWindow 8 (clampInt (-2000) 2000 r - a.accOffset) s.glu.accWindow
          ∧ t.glu.accAverage = accAverageOf t.glu.accWindow
          ∧ t.glu.ownGrade = t.glu.accAverage.map (clampInt (-600) 600))
      ∧ (∀ r : Int, (s.crm.standstill = false ∨ s.suc.axle = none) →
        ∃ t, exec (.accelerometerSample (some r)) s = .next t
          ∧ t.glu.accAnswering = true ∧ t.glu.accWindow = s.glu.accWindow)
      ∧ (∃ t, exec (.accelerometerSample none) s = .next t
          ∧ t.glu.accAnswering = false ∧ t.glu.accWindow = [] ∧ t.glu.accAverage = none
          ∧ hasFault t .gradeSensor = true ∧ t.glu.gradeValid = false))
    ∧ (∀ (raw : BitVec 12) (s : State),
        (∀ a : AxleParams, raw.toNat ≠ 0 → raw.toNat ≠ 4095 → s.suc.axle = some a →
          ∃ t, exec (.loadSample raw) s = .next t ∧ t.glu.lastLoadRaw = some raw
            ∧ t.glu.loadWindow
                = enterWindow 16 (clampInt 0 4000 ((raw.toNat * a.loadScale / 256 : Nat) + a.loadOffset)).toNat s.glu.loadWindow
            ∧ t.glu.loadAverage = loadAverageOf t.glu.loadWindow)
        ∧ (raw.toNat ≠ 0 → raw.toNat ≠ 4095 → s.suc.axle = none →
          ∃ t, exec (.loadSample raw) s = .next t ∧ t.glu.loadWindow = s.glu.loadWindow)
        ∧ ((raw.toNat = 0 ∨ raw.toNat = 4095) →
          ∃ t, exec (.loadSample raw) s = .next t ∧ hasFault t .loadSensor = true ∧ t.glu.loadValid = false
            ∧ t.glu.loadWindow = (if hasFault s .loadSensor then s.glu.loadWindow else [])))

/-- A rollaway takes a watching station to ALARM as the originator of the alarm (R136, R139): slip that has built up to 99 samples
at the next sample over the threshold (R101, R102), and downhill travel that a pulse brings to the rollaway threshold, or that is
found there when the plan event of a drum notice turns the downhill direction (R95, R97). The grade of the notice is G; that it is
the last used G while G has no value is log entry 25. -/
def Obligations.RollawayRaisesAlarm : Prop :=
  (∀ (s : State) (r a b : Int) (p : AxleParams), Settled s → failureRaised s = false →
      (s.stc.state = .holding ∨ s.stc.state = .secured) → s.crm.watch = true → s.crm.standstill = true →
      s.suc.axle = some p →
      accAverageOf (enterWindow 8 (clampInt (-2000) 2000 r - p.accOffset) s.glu.accWindow) = some a →
      s.crm.slipReference = some b → 40 < (a - b).natAbs → s.crm.slipAccumulated = 99 →
      ∃ t, exec (.accelerometerSample (some r)) s = .next t
        ∧ t.stc.state = .alarm ∧ t.crm.slipAccumulated = 100
        ∧ t.alarm.entryCause = some .ownSlip ∧ t.alarm.entryOrigin = some (own s) ∧ t.alarm.entryReason = some .slip
        ∧ t.alarm.entryTime = some s.now ∧ t.alarm.ackArmed = false ∧ t.lnk.alarmSlot.isSome = true
        ∧ t.mod.parkCmd = false ∧ t.mod.join = .alarm)
    ∧ (∀ (w : Wheel) (dir : Direction) (s : State), Settled s → failureRaised s = false →
        (s.stc.state = .holding ∨ s.stc.state = .secured ∨ s.stc.state = .leaving) →
        (s.crm.pulse w dir s.suc.axle).rolls s.suc.vehicle.rollawayThreshold = true →
        ∃ t, exec (.wheelPulse w dir) s = .next t
          ∧ t.stc.state = .alarm ∧ t.alarm.entryCause = some .ownDistance ∧ t.alarm.entryOrigin = some (own s)
          ∧ t.alarm.entryReason = some .distance
          ∧ t.alarm.entryDistance = some (min 65535 (s.crm.pulse w dir s.suc.axle).travel)
          ∧ t.alarm.entryTime = some s.now
          ∧ t.lnk.alarmSlot = some { reason := .distance, travel := min 65535 (s.crm.pulse w dir s.suc.axle).travel,
                                     grade := s.hpl.g.getD s.hpl.lastG }
          ∧ t.mod.parkCmd = false ∧ t.mod.join = .alarm ∧ t.stc.holdTimer = none)
    ∧ (∀ (p : List Byte) (s : State) (a : AxleParams) (d : DrumRecord) (g : Int) (n : Nat), Settled s →
        failureRaised s = false → listening s = true → 3 ≤ p.length → d = drumOf s.now p → d.rotating ≠ s.ptb.drum.rotating →
        (s.stc.state = .holding ∨ s.stc.state = .secured ∨ s.stc.state = .leaving) → s.crm.watch = true →
        s.suc.axle = some a → (fullPlan { s with ptb := { s.ptb with drum := d } } a).g = some g →
        downhillOf (some g) s.suc.vehicle.gMin ≠ s.crm.downhill →
        n = downhillTravel (downhillOf (some g) s.suc.vehicle.gMin) s.crm.rollBase s.crm.d →
        s.suc.vehicle.rollawayThreshold ≤ n →
        ∃ t, exec (.drumNotice 9 p) s = .next t
          ∧ t.stc.state = .alarm ∧ t.alarm.entryCause = some .ownDistance ∧ t.alarm.entryOrigin = some (own s)
          ∧ t.alarm.entryReason = some .distance ∧ t.alarm.entryDistance = some (min 65535 n)
          ∧ t.alarm.entryGrade = some g ∧ t.alarm.entryTime = some s.now
          ∧ t.lnk.alarmSlot = some { reason := .distance, travel := min 65535 n, grade := g }
          ∧ t.mod.parkCmd = false ∧ t.mod.join = .alarm ∧ t.stc.holdTimer = none)

/-- A pressure sample (R69, R70): within the range it gives the pressure in kPa; outside it the old value stays, SUPPLY_SENSOR is
raised by the supply sensor, and the chamber sensor raises PRESSURE_SENSOR and takes the station to FAILED. A chamber pressure
is evaluated by MOD at once (R80), and a step that ends UNREACHED by it raises STEP_UNREACHED (R81): stated for a settled
station in ALARM, and for one in SERVICE on a stationary vehicle under INHIBIT, which stay in their state. HPL runs its limit timer
from the pressure before that evaluation (R64, R69): a pressure that is not below the target as it stood less 30 kPa ends the
time run so far, also where the reference then moves on above it and a new time begins in full. -/
def Obligations.PressureSamples : Prop :=
  (∀ (raw : BitVec 12) (s : State),
      (40 ≤ raw.toNat → raw.toNat ≤ 4055 →
        (∃ t, exec (.chamberPressureSample raw) s = .next t ∧ t.mod.pMeas = raw.toNat * 1100 / 4096)
          ∧ (∃ t, exec (.supplySample raw) s = .next t ∧ t.mod.pSup = raw.toNat * 1100 / 4096))
      ∧ ((raw.toNat < 40 ∨ 4055 < raw.toNat) →
        (∃ t, exec (.chamberPressureSample raw) s = .next t ∧ t.mod.pMeas = s.mod.pMeas
            ∧ hasFault t .pressureSensor = true ∧ (Settled s → t.stc.state = .failed))
          ∧ (∃ t, exec (.supplySample raw) s = .next t ∧ t.mod.pSup = s.mod.pSup ∧ hasFault t .supplySensor = true)))
    ∧ (∀ (raw : BitVec 12) (s : State) (m : Mod), 40 ≤ raw.toNat → raw.toNat ≤ 4055 → Settled s → failureRaised s = false →
        (s.stc.state = .alarm
          ∨ (s.stc.state = .service ∧ s.suc.inhibit = true ∧ s.ptb.vehicleStationary = true)) →
        m = { s.mod with pMeas := raw.toNat * 1100 / 4096 } →
        ∃ t, exec (.chamberPressureSample raw) s = .next t
          ∧ t.stc.state = s.stc.state ∧ t.mod = m.evaluate.mod
          ∧ hasFault t .stepUnreached
              = (hasFault s .stepUnreached || decide (m.evaluate.ended.map StepEnd.outcome = some .unreached))
          ∧ (∀ f g : InFlight, m.inFlight = some f → m.evaluate.mod.inFlight = some g → m.evaluate.ended = none →
              t.hpl.limitTimer
                = (if m.evaluate.mod.applyCmd = true ∧ m.pMeas + 30 < g.intermediate then
                     (if m.applyCmd = true ∧ m.pMeas + 30 < f.intermediate then some (s.hpl.limitTimer.getD 500) else some 500)
                   else none)))

/-- A valve driver's report (R72, R84, R20): VALVE_DRIVER is raised, and a settled station goes to FAILED with the park valve
de-energised, the join IDLE-TRAP, no step held and both service valves closed; from IDLE-TRAP (a station in OFFLINE) it goes
there too, its service valves as they were. -/
def Obligations.ValveDriverFails : Prop :=
  ∀ (d : ValveDriver) (r : DriverReport) (s : State),
    (∃ t, exec (.valveDriverFault d r) s = .next t ∧ hasFault t .valveDriver = true ∧ t.mod.pMeas = s.mod.pMeas)
      ∧ (Settled s → failureRaised s = false → s.stc.state ≠ .failed → s.mod.join ≠ .idleTrap →
          ∃ t, exec (.valveDriverFault d r) s = .next t ∧ t.stc.state = .failed ∧ t.mod.parkCmd = false
            ∧ t.mod.join = .idleTrap ∧ t.mod.queue = [] ∧ t.mod.inFlight = none ∧ t.mod.standing = none
            ∧ t.mod.applyCmd = false ∧ t.mod.releaseCmd = false
            ∧ t.stc.holdTimer = none ∧ t.stc.loweringTimer = none ∧ t.stc.unparkMark = false)
      ∧ (Settled s → failureRaised s = false → s.stc.state ≠ .failed → s.mod.join = .idleTrap → QueueRight s.mod →
          ∃ t, exec (.valveDriverFault d r) s = .next t ∧ t.stc.state = .failed ∧ t.mod.parkCmd = false
            ∧ t.mod.join = .idleTrap ∧ t.mod.queue = [] ∧ t.mod.inFlight = none ∧ t.mod.standing = none
            ∧ t.mod.applyCmd = s.mod.applyCmd ∧ t.mod.releaseCmd = s.mod.releaseCmd
            ∧ t.stc.holdTimer = none ∧ t.stc.loweringTimer = none ∧ t.stc.unparkMark = false)

/-- A wheel pulse (R44, R90 to R92): the wheel's count, the axle count and d, the standstill flag cleared and its timer started
again, and the accelerometer window emptied where the flag was set. A quiet STANDSTILL station with no securing condition and no
INHIBIT counts it and goes to FREE, and vehicle-stationary ceases (R5, R36, R94). Under the watch a pulse that has moved d a creep
threshold from the rebase counts one creep event, up to seven, and moves the rebase to d; any other leaves both (R96). -/
def Obligations.PulseCounts : Prop :=
  (∀ (w : Wheel) (dir : Direction) (s : State), s.stc.state ≠ .standstill →
      ∃ t, exec (.wheelPulse w dir) s = .next t
        ∧ t.crm.left = (if w = .left then countAfter dir s.crm.left else s.crm.left)
        ∧ t.crm.right = (if w = .right then countAfter dir s.crm.right else s.crm.right)
        ∧ t.crm.axle = axleCount t.crm.left t.crm.right
        ∧ t.crm.d = axleDistance t.crm.axle s.suc.axle
        ∧ t.crm.standstill = false ∧ t.crm.standstillTimer = some 500
        ∧ t.glu.accWindow = (if s.crm.standstill then [] else s.glu.accWindow))
    ∧ (∀ (w : Wheel) (dir : Direction) (s : State), Settled s → failureRaised s = false →
        unacknowledgedAlarms s = [] → s.stc.state = .standstill → s.crm.watch = false → s.suc.inhibit = false →
        securing s = false →
        ∃ t, exec (.wheelPulse w dir) s = .next t ∧ t.stc.state = .free ∧ t.ptb.vehicleStationary = false
          ∧ t.crm.left = (if w = .left then countAfter dir s.crm.left else s.crm.left)
          ∧ t.crm.right = (if w = .right then countAfter dir s.crm.right else s.crm.right)
          ∧ t.crm.d = axleDistance (axleCount t.crm.left t.crm.right) s.suc.axle
          ∧ t.crm.standstill = false ∧ t.crm.standstillTimer = some 500)
    ∧ (∀ (w : Wheel) (dir : Direction) (s : State) (d : Int), Settled s → s.crm.watch = true →
        s.stc.state.monitored = true → d = (s.crm.pulse w dir s.suc.axle).d →
        ∃ t, exec (.wheelPulse w dir) s = .next t ∧ t.crm.d = d
          ∧ (s.suc.vehicle.creepThreshold ≤ (d - s.crm.rebase).natAbs →
              t.crm.eOwn = (if s.crm.eOwn < 7 then s.crm.eOwn + 1 else s.crm.eOwn) ∧ t.crm.rebase = d)
          ∧ ((d - s.crm.rebase).natAbs < s.suc.vehicle.creepThreshold →
              t.crm.eOwn = s.crm.eOwn ∧ t.crm.rebase = s.crm.rebase))

/-! ### Timers of the axle -/

/-- The standstill timer sets the own flag (R92), the vehicle-stationary timer of a settled station sets vehicle-stationary
where its raw condition holds (R36), and the spring-apply timer sets SPRINGS_COUNTED on an axle with springs (R87); each
does nothing where it is stopped. Taken whenever the timer runs (log entry 2). -/
def Obligations.FlagTimers : Prop :=
  (∀ s : State,
      (s.crm.standstillTimer.isSome = true →
        ∃ t, exec .standstillTimerExpiry s = .next t ∧ t.crm.standstill = true ∧ t.crm.standstillTimer = none)
      ∧ (s.crm.standstillTimer = none → exec .standstillTimerExpiry s = .next s)
      ∧ (Settled s → s.ptb.stationaryTimer.isSome = true →
        ∃ t, exec .vehicleStationaryTimerExpiry s = .next t
          ∧ t.ptb.vehicleStationary = rawStationary (own s) s.ptb.entries ∧ t.ptb.stationaryTimer = none)
      ∧ (s.ptb.stationaryTimer = none → exec .vehicleStationaryTimerExpiry s = .next s))
    ∧ (∀ s : State,
        (Settled s → s.mod.springTimer.isSome = true → s.mod.parkCmd = false →
          (s.stc.state = .secured ∨ s.stc.state = .alarm ∨ s.stc.state = .failed) →
          ∃ t, exec .springApplyTimerExpiry s = .next t
            ∧ t.mod.springsCounted = (s.mod.springsCounted || s.suc.spring) ∧ t.mod.springTimer = none
            ∧ t.mod.parkCmd = false)
        ∧ (s.mod.springTimer = none → exec .springApplyTimerExpiry s = .next s))

/-- The hold-time limit (R9): a calm station in HOLDING with no hand-off reason goes to SECURED with the park valve
de-energised and PLANNER joined; a station in LEAVING sets the limit mark and stays. Taken whenever the timer runs (log
entry 2). -/
def Obligations.HoldTimeLimit : Prop :=
  ∀ s : State, Settled s → s.stc.holdTimer.isSome = true →
    (s.stc.state = .holding → Calm s → handoffReason s = false →
      ∃ t, exec .holdTimeTimerExpiry s = .next t ∧ t.stc.state = .secured ∧ t.stc.holdTimer = none
        ∧ t.mod.parkCmd = false ∧ t.mod.join = .planner ∧ t.crm.eOwn = s.crm.eOwn
        ∧ t.stc.holdEntryTime = s.stc.holdEntryTime)
    ∧ (s.stc.state = .leaving →
      exec .holdTimeTimerExpiry s = .next { s with stc := { s.stc with holdTimer := none, limitMark := true } })

/-- The lowering timer ends (R16, R5): a station whose LIFTED flag follows its lift bit is available again, and one with
vehicle-stationary set leaves FREE. Taken whenever the timer runs (log entry 2). -/
def Obligations.LoweringEnds : Prop :=
  ∀ s : State, Settled s → Calm s → s.stc.state = .free → s.stc.lifted = liftAsked s → s.suc.inhibit = false →
    s.stc.loweringTimer.isSome = true →
    ∃ t, exec .loweringTimerExpiry s = .next t ∧ t.stc.loweringTimer = none
      ∧ t.stc.lifted = s.stc.lifted
      ∧ (s.ptb.vehicleStationary = true → s.stc.lifted = false → t.stc.state ≠ .free)
      ∧ ((s.ptb.vehicleStationary = false ∨ s.stc.lifted = true) → t.stc.state = .free)

/-- The plausibility timer sets the failure mark and GRADE_SENSOR, and the own grade is no longer valid (R48); the limit
timer of a settled station sets LIMITED with the highest pressure of the step in flight (R64), and where the own entry, in the
pool, did not show the flag before, the change is a plan event (R42): the brake capacity of a calm holding station is that of the
pressure recorded (R57). Taken whenever the timer runs (log entry 2). -/
def Obligations.GradeAndLimitTimers : Prop :=
  (∀ s : State, s.glu.plausibilityTimer.isSome = true →
      ∃ t, exec .plausibilityTimerExpiry s = .next t
        ∧ t.glu.plausibilityFailed = true ∧ hasFault t .gradeSensor = true ∧ t.glu.gradeValid = false)
    ∧ (∀ (s : State) (f : InFlight), Settled s → s.hpl.limitTimer.isSome = true → s.mod.inFlight = some f →
        ∃ t, exec .limitTimerExpiry s = .next t
          ∧ t.hpl.limited = true ∧ t.hpl.bestAchieved = f.highest ∧ (entryOf t (own s)).flags.limited = true
          ∧ (∀ a : AxleParams, Calm s → (s.stc.state = .holding ∨ s.stc.state = .secured) → s.suc.axle = some a →
              own s ∈ s.ptb.pool → s.hpl.limited = false →
              t.hpl.cb = min f.highest t.hpl.pTop * a.brakeGain / 100))

/-- Submission (R66, R76). The decrease wait ends: a target still 40 kPa or more below the last submitted one is submitted, at once
in flight with no step in flight and otherwise behind a step that is no lower; any other leaves the last submitted target. Taken
whenever the wait runs (log entry 2). A computation, here that of a drum notice in a calm HOLDING station that stays there, with
the target P_t: 10 kPa or more above the last submitted target it submits at once and stops the wait, in place of a lower PLANNER
step in flight and behind any other; below that it leaves the modulator as it is, starts the wait of 1 s at a target 40 kPa or
more below the last submitted one, and keeps a running wait with its lowest target until a target 10 kPa above that, or one that
is no longer 40 kPa below, cancels it, where a new one may start. -/
def Obligations.DecreaseWaitEnds : Prop :=
  (∀ (s : State) (w : DecreaseWait) (f : InFlight), Settled s → s.hpl.decreaseWait = some w →
    (s.stc.state = .holding ∨ s.stc.state = .secured) → s.mod.join = .planner → s.mod.inFlight = some f →
    (s.hpl.pT + 40 ≤ s.hpl.lastSubmitted → s.hpl.pT ≤ s.hpl.pTop → s.hpl.pT ≤ f.step.target →
      ∃ t, exec .decreaseWaitExpiry s = .next t ∧ t.hpl.lastSubmitted = s.hpl.pT ∧ t.hpl.decreaseWait = none
        ∧ t.mod.inFlight = some f
        ∧ t.mod.queue = [{ target := s.hpl.pT, rate := 0, source := .planner, clamped := s.hpl.clamped,
                           unpark := s.stc.unparkMark }])
    ∧ (s.hpl.lastSubmitted < s.hpl.pT + 40 →
      ∃ t, exec .decreaseWaitExpiry s = .next t ∧ t.hpl.lastSubmitted = s.hpl.lastSubmitted
        ∧ t.hpl.decreaseWait = none ∧ t.mod = s.mod))
  ∧ (∀ (s : State) (w : DecreaseWait), Settled s → s.hpl.decreaseWait = some w →
    (s.stc.state = .holding ∨ s.stc.state = .secured) → s.mod.join = .planner → s.mod.inFlight = none →
    (s.hpl.pT + 40 ≤ s.hpl.lastSubmitted → s.hpl.pT ≤ s.hpl.pTop →
      ∃ t, exec .decreaseWaitExpiry s = .next t ∧ t.hpl.lastSubmitted = s.hpl.pT ∧ t.hpl.decreaseWait = none
        ∧ t.mod.inFlight.map InFlight.step
            = some { target := s.hpl.pT, rate := 0, source := .planner, clamped := s.hpl.clamped,
                     unpark := s.stc.unparkMark }
        ∧ t.mod.queue = [])
    ∧ (s.hpl.lastSubmitted < s.hpl.pT + 40 →
      ∃ t, exec .decreaseWaitExpiry s = .next t ∧ t.hpl.lastSubmitted = s.hpl.lastSubmitted
        ∧ t.hpl.decreaseWait = none ∧ t.mod = s.mod))
  ∧ (∀ (p : List Byte) (s : State) (a : AxleParams) (x : Plan) (st : Step) (new : Option DecreaseWait), Settled s → Calm s →
    listening s = true → 3 ≤ p.length → (drumOf s.now p).rotating ≠ s.ptb.drum.rotating → s.stc.state = .holding →
    securing s = false → handoffReason s = false → s.mod.join = .planner → s.suc.axle = some a →
    x = fullPlan { s with ptb := { s.ptb with drum := drumOf s.now p } } a →
    st = { target := x.pT, rate := 0, source := .planner, clamped := x.clamped, unpark := s.stc.unparkMark } →
    new = (if x.pT + 40 ≤ s.hpl.lastSubmitted then some { remaining := 1000, start := x.pT, lowest := x.pT } else none) →
    (s.hpl.lastSubmitted + 10 ≤ x.pT →
      ∃ t, exec (.drumNotice 9 p) s = .next t ∧ t.hpl.pT = x.pT ∧ t.hpl.lastSubmitted = x.pT ∧ t.hpl.decreaseWait = none
        ∧ ((∀ f, s.mod.inFlight = some f → f.step.source = .planner ∧ f.step.target < x.pT) →
            t.mod.inFlight.map InFlight.step = some st ∧ t.mod.queue = [])
        ∧ (∀ f, s.mod.inFlight = some f → ¬(f.step.source = .planner ∧ f.step.target < x.pT) →
            t.mod.inFlight = some f ∧ t.mod.queue = [st]))
    ∧ (x.pT < s.hpl.lastSubmitted + 10 →
      ∃ t, exec (.drumNotice 9 p) s = .next t ∧ t.hpl.pT = x.pT ∧ t.hpl.lastSubmitted = s.hpl.lastSubmitted ∧ t.mod = s.mod
        ∧ (s.hpl.decreaseWait = none → t.hpl.decreaseWait = new)
        ∧ (∀ w, s.hpl.decreaseWait = some w →
            t.hpl.decreaseWait
              = (if w.lowest + 10 ≤ x.pT ∨ s.hpl.lastSubmitted < x.pT + 40 then new
                 else some { w with lowest := min w.lowest x.pT }))))

/-! ### CAB and DRUM -/

/-- The cab and drum records. A CAB notice of origin 8 and at least eight bytes writes the cab record and makes it fresh for
200 ms, and the staling keeps the content while every block reads the stale values (R30, R31); a DRUM notice of origin 9 and
at least three bytes writes the drum record and makes it fresh for 1000 ms, and a stale one reads as rotating (R33). From
another origin or shorter either is counted as unclaimed (R149). The staling is taken whenever its timer runs (log entry 2). -/
def Obligations.UnitRecordsWritten : Prop :=
  (∀ (o : Origin) (p : List Byte) (s : State), Hears o s →
      (o = 8 → 8 ≤ p.length →
        ∃ t, exec (.cabNotice o p) s = .next t
          ∧ t.ptb.cab = { fresh := true, content := readCab p, arrival := some s.now, staleTimer := some 200 }
          ∧ t.lnk.unclaimed = s.lnk.unclaimed)
      ∧ ((o ≠ 8 ∨ p.length < 8) →
        ∃ t, exec (.cabNotice o p) s = .next t ∧ t.ptb = s.ptb ∧ t.stc = s.stc
          ∧ t.lnk.unclaimed = satInc 65535 s.lnk.unclaimed)
      ∧ (s.ptb.cab.fresh = true → s.ptb.cab.staleTimer.isSome = true →
        ∃ t, exec .cabRecordStaling s = .next t
          ∧ t.ptb.cab = { s.ptb.cab with fresh := false, staleTimer := none } ∧ cabNow t = staleCab))
    ∧ (∀ (o : Origin) (p : List Byte) (s : State), Hears o s →
        (o = 9 → 3 ≤ p.length →
          ∃ t, exec (.drumNotice o p) s = .next t
            ∧ t.ptb.drum = { fresh := true, speed := (wordAt p 0).toInt, discharging := (byteAt p 2).getLsbD 0,
                             arrival := some s.now, staleTimer := some 1000 })
        ∧ ((o ≠ 9 ∨ p.length < 3) →
          ∃ t, exec (.drumNotice o p) s = .next t ∧ t.ptb = s.ptb ∧ t.lnk.unclaimed = satInc 65535 s.lnk.unclaimed)
        ∧ (s.ptb.drum.fresh = true → s.ptb.drum.staleTimer.isSome = true →
          ∃ t, exec .drumRecordStaling s = .next t
            ∧ t.ptb.drum = { s.ptb.drum with fresh := false, staleTimer := none } ∧ t.ptb.drum.rotating = true))

/-- The two hold entries by a CAB notice. One that shows a securing condition takes a calm station with no hand-off reason from
STANDSTILL or HOLDING to SECURED, the park valve de-energised and PLANNER joined; from STANDSTILL it is a hold entry (R6, R8, R10,
R94). One that shows no securing condition, the pedal released and a drive force below F_nom takes a calm STANDSTILL station
on a grade of the hill threshold at least to HOLDING, as a hold entry: the park valve energised, PLANNER joined, the hold-time
timer started in full and the watch begun (R7, R8, R9, R93, R94). -/
def Obligations.SecuringTakesEffect : Prop :=
  (∀ (p : List Byte) (s : State), Settled s → Calm s → listening s = true → 8 ≤ p.length →
      (s.stc.state = .standstill ∨ s.stc.state = .holding) → s.suc.inhibit = false → s.stc.lifted = false →
      ((readCab p).liftBits.getLsbD (own s).val && liftRole s) = false →
      ((readCab p).park = true ∨ (readCab p).driver = false ∨ (readCab p).ignition = false) →
      ∃ t, exec (.cabNotice 8 p) s = .next t
        ∧ t.stc.state = .secured ∧ t.mod.parkCmd = false ∧ t.mod.join = .planner ∧ t.stc.holdTimer = none
        ∧ (s.stc.state = .standstill →
            t.stc.holdEntryTime = s.now ∧ t.crm.eOwn = 0 ∧ t.crm.left = 0 ∧ t.crm.right = 0 ∧ t.crm.d = 0)
        ∧ (s.stc.state = .holding → t.stc.holdEntryTime = s.stc.holdEntryTime ∧ t.crm.eOwn = s.crm.eOwn))
    ∧ (∀ (p : List Byte) (s : State) (g : Int), Settled s → Calm s → listening s = true → 8 ≤ p.length →
      s.stc.state = .standstill → s.ptb.vehicleStationary = true → s.suc.inhibit = false → s.stc.lifted = false →
      ((readCab p).liftBits.getLsbD (own s).val && liftRole s) = false →
      (readCab p).park = false → (readCab p).driver = true → (readCab p).ignition = true → (readCab p).pedal = false →
      s.hpl.g = some g → s.suc.vehicle.hillThreshold ≤ g.natAbs → (readCab p).driveForce < s.hpl.fNom →
      ∃ t, exec (.cabNotice 8 p) s = .next t
        ∧ t.stc.state = .holding ∧ t.mod.parkCmd = true ∧ t.mod.join = .planner
        ∧ t.stc.holdTimer = some (s.suc.vehicle.holdLimit * 1000) ∧ t.stc.holdEntryTime = s.now
        ∧ t.crm.eOwn = 0 ∧ t.crm.left = 0 ∧ t.crm.right = 0 ∧ t.crm.d = 0 ∧ t.crm.watch = true)

/-- In ALARM with the acknowledgement armed, a CAB notice that shows the ack flag, the driver, the pedal and the park switch takes
the station to SECURED with its hold entry time kept, its own unsent ALARM notice removed and the park valve de-energised
(R19, R137, R142). No watch is set in ALARM (R93, `RecordsRight`). -/
def Obligations.AcknowledgementEndsAlarm : Prop :=
  ∀ (p : List Byte) (s : State), Settled s → listening s = true → 8 ≤ p.length → s.stc.state = .alarm →
    failureRaised s = false → s.suc.inhibit = false → 0 < s.suc.vehicle.rollawayThreshold →
    s.alarm.ackArmed = true → s.mod.parkCmd = false → s.crm.watch = false →
    ((readCab p).liftBits.getLsbD (own s).val && liftRole s) = false →
    (readCab p).ack = true → (readCab p).driver = true → (readCab p).pedal = true → (readCab p).park = true →
    ∃ t, exec (.cabNotice 8 p) s = .next t
      ∧ t.stc.state = .secured ∧ t.mod.join = .planner ∧ t.mod.parkCmd = false
      ∧ t.alarm.ackArmed = false ∧ t.lnk.alarmSlot = none ∧ t.stc.holdEntryTime = s.stc.holdEntryTime
      ∧ t.crm.eOwn = s.crm.eOwn

/-- An un-park begins and ends. A CAB notice that shows the un-park condition begins one in a calm SECURED station with no hand-off
reason: the mark is set, the state stays and the park valve stays de-energised (R11); with PLANNER joined and the axle parameters
valid the target of the plan is that of its share with no springs counted, and it is submitted at once, as a step that carries the
mark, in place of a lower PLANNER step in flight or of what was pending (R11, R62, R67, R76); that this stops a running decrease wait
is the model's choice (log entry 46). The chamber sample that ends the marked
PLANNER step REACHED ends it, where the plan of that moment asks for no higher target: HOLDING, the park valve energised, spring
counting stopped, the hold-time timer started and PLANNER still joined, without a hold entry (R12, R9). -/
def Obligations.UnparkBegins : Prop :=
  (∀ (p : List Byte) (s : State), Settled s → Calm s → listening s = true → 8 ≤ p.length → s.stc.state = .secured →
      s.suc.inhibit = false → s.stc.unparkMark = false → s.stc.unparkSpent = false → s.mod.parkCmd = false →
      ((readCab p).liftBits.getLsbD (own s).val && liftRole s) = false →
      (readCab p).driver = true → (readCab p).park = false → (readCab p).pedal = true → (readCab p).ignition = true →
      ∃ t, exec (.cabNotice 8 p) s = .next t
        ∧ t.stc.state = .secured ∧ t.stc.unparkMark = true ∧ t.mod.parkCmd = false
        ∧ (∀ (a : AxleParams) (st : Step), s.suc.axle = some a → s.mod.join = .planner →
            st = { target := t.hpl.pT, rate := 0, source := .planner, clamped := t.hpl.clamped, unpark := true } →
            fullPlan t a = t.hpl
              ∧ t.hpl.pT = min (demandPressure t.hpl.share 0 a.brakeGain) t.hpl.pTop
              ∧ t.hpl.lastSubmitted = t.hpl.pT ∧ t.hpl.decreaseWait = none
              ∧ ((t.mod.inFlight.map InFlight.step = some st ∧ t.mod.queue = [])
                  ∨ (t.mod.inFlight = s.mod.inFlight ∧ t.mod.queue = [st]))))
    ∧ (∀ (raw : BitVec 12) (s : State) (f : InFlight) (a : AxleParams), Settled s → Calm s →
      40 ≤ raw.toNat → raw.toNat ≤ 4055 → s.stc.state = .secured → s.stc.unparkMark = true → s.mod.parkCmd = false →
      securing s = false → handoffReason s = false → s.mod.join = .planner → s.mod.queue = [] → s.mod.inFlight = some f →
      f.step.source = .planner → f.step.unpark = true → f.elapsed < f.allowed → movedReference f = f.step.target →
      distance f.step.target (raw.toNat * 1100 / 4096) ≤ 15 → f.inBand.any (fun n => decide (60 ≤ n)) = true →
      s.suc.axle = some a → (fullPlan s a).pT < s.hpl.lastSubmitted + 10 →
      ∃ t, exec (.chamberPressureSample raw) s = .next t
        ∧ t.stc.state = .holding ∧ t.mod.parkCmd = true ∧ t.stc.unparkMark = false ∧ t.mod.join = .planner
        ∧ t.mod.springsCounted = false ∧ t.mod.springTimer = none
        ∧ t.stc.holdTimer = some (s.suc.vehicle.holdLimit * 1000) ∧ t.stc.holdEntryTime = s.stc.holdEntryTime
        ∧ t.crm.eOwn = s.crm.eOwn)

/-! ### The peer table -/

/-- A STATUS of a peer rewrites its entry (R26, R27, R29): FRESH, the time since it from 0, the deadline of 350 ms where the state
announced or the state before it is passive or the entry was not FRESH and of 70 ms otherwise, and the leaving mark kept only
with LEAVING. One of the wrong length or with a state code of 10 to 15 is counted as unclaimed. -/
def Obligations.StatusRewritesEntry : Prop :=
  ∀ (n : StationNo) (o : Origin) (p : List Byte) (s : State), o.val = n.val → Hears o s →
    (∀ e, readStatus p = some e →
      ∃ t, exec (.statusNotice o p) s = .next t
        ∧ entryOf t n = { e with
            presence := .fresh, sinceStatus := 0,
            deadline := some (if e.state.passive || (entryOf s n).state.passive || !(entryOf s n).isFresh then 350 else 70),
            leaving := (entryOf s n).leaving && decide (e.state = .leaving) })
    ∧ (readStatus p = none →
      ∃ t, exec (.statusNotice o p) s = .next t ∧ t.ptb = s.ptb ∧ t.lnk.unclaimed = satInc 65535 s.lnk.unclaimed)

/-- A peer's entry ages (R27, R28, R108, R120): at its deadline a FRESH entry becomes STALE with its content kept and its
leaving mark clear, and at 2000 ms an entry becomes ABSENT and blank; the reply gathered from that station and its replier
record end. The own entry never ages (R25). Each is taken at whatever time it is given (log entry 2). -/
def Obligations.EntriesAge : Prop :=
  ∀ (n : StationNo) (s : State),
    (n ≠ own s → (entryOf s n).presence = .fresh → (entryOf s n).deadline.isSome = true →
      ∃ t, exec (.entryStalenessDeadline n) s = .next t
        ∧ entryOf t n = { entryOf s n with presence := .stale, deadline := none, leaving := false }
        ∧ t.hoe.replies.get n = none ∧ (t.hoe.repliers.get n).toggle = none)
    ∧ (n ≠ own s → (entryOf s n).presence ≠ .absent →
      ∃ t, exec (.entryAbsent n) s = .next t
        ∧ entryOf t n = {} ∧ t.hoe.replies.get n = none ∧ (t.hoe.repliers.get n).toggle = none)
    ∧ (n = own s → exec (.entryStalenessDeadline n) s = .next s ∧ exec (.entryAbsent n) s = .next s)

/-- A frame that bears the own origin raises DUPLICATE_ID, whatever its class, and records the station time; one of the ALARM
class is an alarm cause all the same (R40, R138). -/
def Obligations.ForeignOwnOrigin : Prop :=
  ∀ (k : Fin 8) (p : List Byte) (s : State), listening s = true →
    (∃ t, exec (.foreignOwnOriginFrame k p) s = .next t ∧ hasFault t .duplicateId = true
        ∧ t.ptb.lastDuplicate = some s.now ∧ t.lnk.validFrames = satInc 65535 s.lnk.validFrames)
      ∧ (Settled s → k = 0 → p.length = 6 → s.stc.state.alarmable = true → failureRaised s = false →
          ∃ t, exec (.foreignOwnOriginFrame k p) s = .next t ∧ t.stc.state = .alarm
            ∧ t.alarm.count = satInc 65535 s.alarm.count)

/-! ### The alarm -/

/-- An ALARM notice of six bytes is an alarm cause (R135, R138, R139, R141): counted in every state, and in the states ALARM can be
entered from it takes the station there, with the entry items written, the park valve de-energised and ALARM joined. One of
another length is unclaimed. -/
def Obligations.AlarmNoticeTaken : Prop :=
  ∀ (n : StationNo) (o : Origin) (p : List Byte) (s : State), o.val = n.val → Hears o s → Settled s →
    (p.length = 6 → s.stc.state.alarmable = true → failureRaised s = false →
      ∃ t, exec (.alarmNotice o p) s = .next t
        ∧ t.stc.state = .alarm ∧ t.alarm.count = satInc 65535 s.alarm.count
        ∧ t.alarm.entryCause = some .notice ∧ t.alarm.entryOrigin = some n
        ∧ t.alarm.entryReason = some (readAlarmReason (byteAt p 1))
        ∧ t.alarm.entryDistance = some (wordAt p 2).toNat ∧ t.alarm.entryGrade = some (wordAt p 4).toInt
        ∧ t.alarm.entryTime = some s.now ∧ t.alarm.ackArmed = false
        ∧ t.mod.parkCmd = false ∧ t.mod.join = .alarm ∧ t.stc.holdTimer = none ∧ t.stc.unparkMark = false
        ∧ t.stc.faultLine = true)
    ∧ (p.length = 6 → s.stc.state.alarmable = false →
      ∃ t, exec (.alarmNotice o p) s = .next t ∧ SameStation s t
        ∧ t.alarm = { s.alarm with count := satInc 65535 s.alarm.count })
    ∧ (p.length ≠ 6 →
      ∃ t, exec (.alarmNotice o p) s = .next t ∧ SameStation s t ∧ t.alarm = s.alarm
        ∧ t.lnk.unclaimed = satInc 65535 s.lnk.unclaimed)

/-! ### The hand-off -/

/-- A REQUEST of a leaver whose entry is FRESH sets its leaving mark, is recorded, and calls for an immediate STATUS (R29,
R116, R156); one whose leaver's entry is not FRESH changes nothing but what hearing a frame does. A CANCEL clears the mark
and the replier record (R120). A REQUEST or a CANCEL whose leaver is not its origin is counted as unclaimed and changes nothing
else (R116). That a REQUEST of an entry not FRESH is disregarded whole is log entry 19. A calm station in an
exchange yields to the REQUEST of a lower station number: it is back in its origin state, with no HANDOFF_FAILED, the replies
cleared, and deferred as long as its reason stands; a higher number leaves it in its exchange and gets no REPLY (R115). -/
def Obligations.LeaverIsMarked : Prop :=
  ∀ (m : StationNo) (o : Origin) (b : List Byte) (s : State), o.val = m.val → Hears o s →
    (∀ q, readRequest b = some q → q.leaver = m → (entryOf s m).presence = .fresh →
      ∃ t, exec (.handoffRequest o b) s = .next t
        ∧ entryOf t m = { entryOf s m with leaving := true }
        ∧ (t.hoe.repliers.get m).toggle = some q.toggle ∧ (t.hoe.repliers.get m).force = q.force
        ∧ t.lnk.statusPending = true)
    ∧ (∀ q, readRequest b = some q → q.leaver = m → (entryOf s m).presence ≠ .fresh →
      ∃ t, exec (.handoffRequest o b) s = .next t ∧ t = { s with lnk := s.lnk.heard })
    ∧ (readRequest b = none →
      ∃ t, exec (.handoffRequest o b) s = .next t ∧ t.ptb = s.ptb ∧ t.hoe = s.hoe
        ∧ t.lnk.unclaimed = satInc 65535 s.lnk.unclaimed)
    ∧ (∀ q, readCancel b = some q → q.leaver = m →
      ∃ t, exec (.handoffCancel o b) s = .next t
        ∧ entryOf t m = { entryOf s m with leaving := false }
        ∧ (t.hoe.repliers.get m).toggle = none ∧ (t.hoe.repliers.get m).answer = none)
    ∧ (∀ q, readRequest b = some q → q.leaver ≠ m →
      exec (.handoffRequest o b) s
        = .next { s with lnk := { s.lnk.heard with unclaimed := satInc 65535 s.lnk.unclaimed } })
    ∧ (∀ q, readCancel b = some q → q.leaver ≠ m →
      exec (.handoffCancel o b) s
        = .next { s with lnk := { s.lnk.heard with unclaimed := satInc 65535 s.lnk.unclaimed } })
    ∧ (∀ q, readRequest b = some q → q.leaver = m → (entryOf s m).presence = .fresh → Settled s → Calm s →
        s.stc.state = .leaving → s.hoe.phase = .exchange → s.mod.join = .planner →
        (m.val < (own s).val → s.stc.limitMark = false → securing s = false →
          ∃ t, exec (.handoffRequest o b) s = .next t
            ∧ t.stc.state = (match s.stc.origin with | some .secured => .secured | _ => .holding)
            ∧ t.mod.parkCmd = decide (s.stc.origin ≠ some .secured) ∧ t.mod.join = .planner
            ∧ t.hoe.attemptTimer = none ∧ t.hoe.replies = Table.fill none
            ∧ t.hoe.phase = (if handoffReason s then .deferred else .idle)
            ∧ hasFault t .handoffFailed = hasFault s .handoffFailed)
        ∧ ((own s).val < m.val → leaveReasonCeased s = false →
          ∃ t, exec (.handoffRequest o b) s = .next t
            ∧ t.stc.state = .leaving ∧ t.hoe.toggle = s.hoe.toggle ∧ t.lnk.handoffSlot = s.lnk.handoffSlot))

/-- The answer of a peer in each state (R117, Table 6-2): REFUSE in RELEASING and ALARM, and in the sharing states with
isolation or SHORTFALL; DEFER while a PLANNER step or a plan is outstanding; ACCEPT otherwise; none in the other states. A
REQUEST of a FRESH leaver places at a calm station that answers a REPLY with the answer of the table and an own achieved force,
and the answer stands; it places none at a station that stays in a state without an answer (R116, R119). A CAB notice that
changes the park switch, the pedal or the ignition sets plan pending, and where ACCEPT stood a REPLY is placed (R118, R119), the
last one with the answer of the table after the event. Both are stated for the only leaver on record; of several, log entry 39. -/
def Obligations.AnswersOfTable62 : Prop :=
  (∀ s : State,
    ((s.stc.state = .releasing ∨ s.stc.state = .alarm) → peerAnswer s = some .refuse)
    ∧ ((s.stc.state = .standstill ∨ s.stc.state = .holding ∨ s.stc.state = .secured) →
        (isolatedFlags s = true ∨ hasFault s .shortfall = true → peerAnswer s = some .refuse)
          ∧ (isolatedFlags s = false → hasFault s .shortfall = false →
              (peerAnswer s = some .defer ↔
                s.hoe.planPending = true
                  ∨ (∃ f, s.mod.inFlight = some f ∧ f.step.source = .planner)
                  ∨ (∃ st ∈ s.mod.queue, st.source = .planner))
              ∧ (peerAnswer s = some .defer ∨ peerAnswer s = some .accept)))
    ∧ ((s.stc.state = .offline ∨ s.stc.state = .free ∨ s.stc.state = .leaving ∨ s.stc.state = .service
          ∨ s.stc.state = .failed) → peerAnswer s = none))
  ∧ (∀ (m : StationNo) (o : Origin) (b : List Byte) (q : RequestBody) (s : State), o.val = m.val → Hears o s → Settled s →
    Calm s → readRequest b = some q → q.leaver = m → (entryOf s m).presence = .fresh →
    (∀ n, n ≠ m → (s.hoe.repliers.get n).toggle = none) →
    ((s.stc.state = .holding ∨ s.stc.state = .secured ∨ s.stc.state = .alarm ∨ s.stc.state = .releasing
        ∨ (s.stc.state = .standstill ∧ s.suc.inhibit = false ∧ s.ptb.vehicleStationary = true ∧ s.stc.lifted = false
            ∧ liftAsked s = false)) →
      ∃ t x f, exec (.handoffRequest o b) s = .next t ∧ peerAnswer t = some x ∧ (t.hoe.repliers.get m).answer = some x
        ∧ t.lnk.handoffSlot = some (.reply m q.toggle x f) ∧ (f = s.hpl.a ∨ f = t.hpl.a))
    ∧ ((s.stc.state = .failed ∨ (s.stc.state = .offline ∧ s.suc.configWait = .running)
        ∨ (s.stc.state = .free ∧ s.suc.inhibit = false ∧ s.ptb.vehicleStationary = false)
        ∨ (s.stc.state = .service ∧ s.suc.inhibit = true) ∨ (s.stc.state = .leaving ∧ s.hoe.phase = .ramp)) →
      ∃ t, exec (.handoffRequest o b) s = .next t ∧ (t.hoe.repliers.get m).toggle = some q.toggle
        ∧ t.lnk.handoffSlot = s.lnk.handoffSlot))
  ∧ (∀ (m : StationNo) (x : Bool) (p : List Byte) (s : State), Settled s → Calm s → Hears 8 s → 8 ≤ p.length →
    (s.stc.state = .holding ∨ s.stc.state = .secured) → s.suc.inhibit = false →
    ((readCab p).liftBits.getLsbD (own s).val && liftRole s) = false → s.hoe.planPending = false →
    ((readCab p).park ≠ (cabNow s).park ∨ (readCab p).pedal ≠ (cabNow s).pedal
      ∨ (readCab p).ignition ≠ (cabNow s).ignition) →
    m ≠ own s → (s.hoe.repliers.get m).toggle = some x → (s.hoe.repliers.get m).answer = some .accept →
    (∀ n, n ≠ m → (s.hoe.repliers.get n).toggle = none) →
    ∃ t y f, exec (.cabNotice 8 p) s = .next t ∧ peerAnswer t = some y ∧ (t.hoe.repliers.get m).answer = some y
      ∧ t.lnk.handoffSlot = some (.reply m x y f))

/-- A REPLY to the present exchange (R108 to R110, R112): a REFUSE fails the exchange, with HANDOFF_FAILED raised and the station
out of the exchange; any other is gathered, and where it completes the four conditions of success in a calm station the
ramp begins under RELEASE, and where it does not nothing else changes. -/
def Obligations.ReplyTaken : Prop :=
  ∀ (n : StationNo) (o : Origin) (b : List Byte) (q : ReplyBody) (s : State), o.val = n.val → Hears o s → Settled s →
    readReply b = some q → q.replier = n → q.leaver = own s → q.toggle = s.hoe.toggle →
    s.stc.state = .leaving → s.hoe.phase = .exchange →
    (q.answer = .refuse →
      ∃ t, exec (.handoffReply o b) s = .next t ∧ hasFault t .handoffFailed = true ∧ t.hoe.attemptTimer = none
        ∧ t.hoe.phase ≠ .exchange ∧ t.stc.state ≠ .leaving)
    ∧ (q.answer ≠ .refuse → Calm s → leaveReasonCeased s = false →
        exchangeSucceeds { s with hoe := { s.hoe with
          replies := s.hoe.replies.set n (some { answer := q.answer, force := q.force }) } } = true →
        s.mod.join = .planner →
      ∃ t, exec (.handoffReply o b) s = .next t ∧ t.hoe.phase = .ramp ∧ t.mod.join = .release
        ∧ t.stc.state = .leaving ∧ t.hoe.attemptTimer = none)
    ∧ (q.answer ≠ .refuse →
        exchangeSucceeds { s with hoe := { s.hoe with
          replies := s.hoe.replies.set n (some { answer := q.answer, force := q.force }) } } = false →
      exec (.handoffReply o b) s = .next { s with
        lnk := s.lnk.heard
        hoe := { s.hoe with replies := s.hoe.replies.set n (some { answer := q.answer, force := q.force }) } })

/-- The attempt timer places a further REQUEST with the toggle and reason of the exchange up to the tenth, after which the
exchange fails and the station is out of it (R107, R112). The retry wait ends, and a standing reason in a calm hold, with no
peer leaving, starts a new exchange, with the toggle flipped, the first REQUEST counted and the reason recorded (R14, R105,
R106, R113). Taken whenever the timer runs (log entry 2). -/
def Obligations.AttemptsAndRetry : Prop :=
  (∀ s : State, Settled s → s.stc.state = .leaving → s.hoe.phase = .exchange → s.hoe.attemptTimer.isSome = true →
      (s.hoe.attempts < 10 →
        ∃ t, exec .attemptTimerExpiry s = .next t ∧ SameStation s t
          ∧ t.hoe = { s.hoe with attempts := s.hoe.attempts + 1, attemptTimer := some 50 }
          ∧ t.lnk.handoffSlot = some (.request s.hoe.toggle (s.stc.leaveReason.getD .lift)))
      ∧ (10 ≤ s.hoe.attempts →
        ∃ t, exec .attemptTimerExpiry s = .next t ∧ hasFault t .handoffFailed = true ∧ t.hoe.attemptTimer = none
          ∧ t.hoe.phase ≠ .exchange ∧ t.stc.state ≠ .leaving))
    ∧ (∀ s : State, s.hoe.retryWait.isSome = true →
        (∃ t, exec .retryWaitExpiry s = .next t ∧ t.hoe.retryWait = none)
          ∧ (Settled s → Calm s → (s.stc.state = .holding ∨ s.stc.state = .secured) → handoffReason s = true →
              peerLeaving s = false → (s.hoe.phase = .idle ∨ s.hoe.phase = .deferred) → s.mod.join = .planner →
              ∃ t, exec .retryWaitExpiry s = .next t ∧ t.stc.state = .leaving ∧ t.hoe.phase = .exchange
                ∧ t.hoe.toggle = !s.hoe.toggle ∧ t.hoe.attempts = 1 ∧ t.hoe.attemptTimer = some 50
                ∧ t.hoe.replies = Table.fill none ∧ t.mod.join = .planner
                ∧ t.stc.leaveReason = some (if s.suc.inhibit then .inhibit else .lift)
                ∧ t.stc.origin = some (if s.stc.state = .secured then .secured else .holding)))

/-! ### The release -/

/-- The drive-off timer takes a calm station from HOLDING to RELEASING: RELEASE joined, the plan locked, the gear and the
rollback base taken (R13, R123, R124). The turn timer takes a waiting station's turn: RAMPING, with the drive-off profile of
two RELEASE steps, to half the present pressure at 2000 kPa/s and to 0 at 1000 kPa/s (R125, R126). Taken whenever the timer
runs (log entry 2). -/
def Obligations.ReleaseBegins : Prop :=
  (∀ s : State, Settled s → Calm s → s.stc.state = .holding → s.rsq.driveOffTimer.isSome = true →
      0 < s.suc.vehicle.rollbackLimit →
      ∃ t, exec .driveOffTimerExpiry s = .next t
        ∧ t.stc.state = .releasing ∧ t.mod.join = .release ∧ t.mod.parkCmd = true ∧ t.hpl.planLock = true
        ∧ t.rsq.entryGear = (cabNow s).gear.move ∧ t.rsq.rollbackBase = s.crm.d ∧ t.stc.holdTimer = none
        ∧ t.rsq.driveOffTimer = none ∧ (t.rsq.phase = .waitingTurn ∨ t.rsq.phase = .ramping))
    ∧ (∀ s : State, Settled s → s.stc.state = .releasing → s.rsq.phase = .waitingTurn → s.rsq.turnTimer.isSome = true →
        s.mod.join = .release → s.mod.queue = [] → s.mod.inFlight = none → s.mod.pMeas ≤ s.hpl.pTop →
        ∃ t, exec .turnTimerExpiry s = .next t
          ∧ t.rsq.phase = .ramping ∧ t.rsq.profileAppended = true ∧ t.rsq.turnTimer = none ∧ SameStation s t
          ∧ t.mod.inFlight.map InFlight.step = some { target := s.mod.pMeas / 2, rate := 2000, source := .release }
          ∧ t.mod.queue = [{ target := 0, rate := 1000, source := .release }])

/-- The ends of a release and of a hand-off ramp. The lapse timer aborts a release: the abort flag for 1000 ms, the reason, the
count, and the station out of RELEASING with its plan lock released (R130, R132). So do, in a calm station, a pulse that brings the
rollback travel to the limit, and the STATUS of a peer, not in ALARM, that comes to show RELEASE_ABORT, each with its reason and one
creep event; with no securing condition and no hand-off reason the station is back in HOLDING with the hold-time timer started
in full (R129, R131). Such a STATUS takes a FREE station in its re-hold window back to HOLDING, without an abort of its own and with
its counts kept, unless it is lifted or being lowered; the window closes either way (R133). The abort flag clears with its timer (R132); where the
own entry is in the pool its change is a plan event, and a calm holding station computes and keeps its state (R34, R42). And
the re-hold window closes with the release-completed time (R133). The chamber sample that finds the second step of its profile
ended and the pressure at 20 kPa or below takes a calm station with no INHIBIT out of its ramp, and one that finds the pressure
higher does not: from RELEASING, on a vehicle not stationary, to FREE with the release completed, the re-hold window of 2 s begun
and the plan lock released (R127, R133); from LEAVING to FREE with LIFTED set, or to SERVICE with the park valve kept, by the
recorded reason (R15, R111). The timers are taken whenever they run (log entry 2); that a lowering timer stops where LIFTED is set
is log entry 30. -/
def Obligations.ReleaseEnds : Prop :=
  (∀ s : State, s.stc.state = .releasing → s.rsq.phase ≠ .idle →
      (s.rsq.lapseTimer.isSome = true →
        ∃ t, exec .lapseTimerExpiry s = .next t
          ∧ t.rsq.abortFlag = true ∧ t.rsq.abortFlagTimer = some 1000 ∧ t.rsq.lastAbort = some .lapse
          ∧ t.rsq.abortCount = satInc 65535 s.rsq.abortCount ∧ t.rsq.phase = .idle ∧ t.stc.state ≠ .releasing
          ∧ t.hpl.planLock = false ∧ t.crm.eOwn = satInc 7 s.crm.eOwn)
      ∧ (s.rsq.lapseTimer = none → exec .lapseTimerExpiry s = .next s))
    ∧ (∀ s : State,
        (s.rsq.abortFlagTimer.isSome = true → Settled s →
          ∃ t, exec .abortFlagTimerExpiry s = .next t ∧ t.rsq.abortFlag = false ∧ t.rsq.abortFlagTimer = none
            ∧ (entryOf t (own s)).flags.releaseAbort = false
            ∧ (own s ∉ s.ptb.pool → SameStation s t ∧ t.hpl = s.hpl)
            ∧ (∀ a : AxleParams, Calm s → s.stc.state = .holding → securing s = false → handoffReason s = false →
                s.suc.axle = some a → own s ∈ s.ptb.pool → s.rsq.abortFlag = true →
                SameStation s t ∧ t.hpl.g = (fullPlan s a).g ∧ t.hpl.c = (fullPlan s a).c
                  ∧ t.hpl.share = (fullPlan s a).share ∧ t.hpl.pT = (fullPlan s a).pT ∧ t.hpl.a = (fullPlan s a).a))
        ∧ (s.rsq.reholdWindow.isSome = true →
          exec .reholdWindowExpiry s
            = .next { s with rsq := { s.rsq with reholdWindow := none, releaseCompleted := none } })
        ∧ (s.rsq.reholdWindow = none → exec .reholdWindowExpiry s = .next s))
    ∧ (∀ (raw : BitVec 12) (s : State) (p : Nat), p = raw.toNat * 1100 / 4096 → 40 ≤ raw.toNat → raw.toNat ≤ 4055 →
        Settled s → Calm s →
        (s.stc.state = .releasing → s.rsq.phase = .ramping → s.crm.watch = false → s.ptb.abortPeer = false →
            (s.crm.d - s.rsq.rollbackBase).natAbs < s.suc.vehicle.rollbackLimit →
            lastStepEnds p s.rsq.rampSteps s = true →
            (p ≤ 20 → s.ptb.vehicleStationary = false → s.suc.inhibit = false →
              ∃ t, exec (.chamberPressureSample raw) s = .next t
                ∧ t.stc.state = .free ∧ t.mod.join = .idleVent ∧ t.mod.parkCmd = true ∧ t.hpl.planLock = false
                ∧ t.rsq.phase = .idle ∧ t.rsq.entryGear = none ∧ t.rsq.releaseCompleted = some s.now
                ∧ t.rsq.reholdWindow = some 2000 ∧ t.stc.lifted = liftAsked s)
            ∧ (20 < p →
              ∃ t, exec (.chamberPressureSample raw) s = .next t
                ∧ t.stc.state = .releasing ∧ t.rsq.phase = .ramping ∧ t.mod.join = .release))
        ∧ (s.stc.state = .leaving → s.hoe.phase = .ramp → lastStepEnds p s.hoe.rampSteps s = true →
            (p ≤ 20 → s.stc.leaveReason = some .lift → s.suc.inhibit = false → s.ptb.vehicleStationary = false →
              ∃ t, exec (.chamberPressureSample raw) s = .next t
                ∧ t.stc.state = .free ∧ t.mod.join = .idleVent ∧ t.mod.parkCmd = true ∧ t.hoe.phase = .idle
                ∧ t.hoe.replies = Table.fill none ∧ t.stc.lifted = liftAsked s
                ∧ t.stc.loweringTimer = (if liftAsked s then none else some 3000)
                ∧ t.rsq.reholdWindow = s.rsq.reholdWindow ∧ t.rsq.releaseCompleted = s.rsq.releaseCompleted)
            ∧ (p ≤ 20 → s.stc.leaveReason = some .inhibit → s.suc.inhibit = true →
              ∃ t, exec (.chamberPressureSample raw) s = .next t
                ∧ t.stc.state = .service ∧ t.mod.join = .idleVent ∧ t.mod.parkCmd = s.mod.parkCmd ∧ t.hoe.phase = .idle
                ∧ t.hoe.replies = Table.fill none)
            ∧ (20 < p →
              ∃ t, exec (.chamberPressureSample raw) s = .next t
                ∧ t.stc.state = .leaving ∧ t.hoe.phase = .ramp ∧ t.mod.join = .release)))
    ∧ (∀ (w : Wheel) (dir : Direction) (s : State), Settled s → Calm s → s.stc.state = .releasing → s.rsq.phase ≠ .idle →
        s.crm.watch = false → s.crm.downhill = downhillOf s.hpl.g s.suc.vehicle.gMin →
        s.suc.vehicle.rollbackLimit
          ≤ rollbackTravel s.crm.downhill s.rsq.entryGear s.rsq.rollbackBase (s.crm.pulse w dir s.suc.axle).d →
        ∃ t, exec (.wheelPulse w dir) s = .next t ∧ Aborts .rollback s t)
    ∧ (∀ (n : StationNo) (o : Origin) (p : List Byte) (e : Entry) (s : State), o.val = n.val → Hears o s → Settled s → Calm s →
        readStatus p = some e → e.flags.releaseAbort = true → e.state ≠ .alarm → (entryOf s n).showsAbort = false →
        s.crm.watch = false →
        (s.stc.state = .releasing → s.rsq.phase ≠ .idle →
          ∃ t, exec (.statusNotice o p) s = .next t ∧ Aborts .peer s t)
        ∧ (s.stc.state = .free → s.rsq.reholdWindow.isSome = true →
          (s.stc.lifted = false → s.stc.loweringTimer = none →
            ∃ t, exec (.statusNotice o p) s = .next t
              ∧ t.stc.state ≠ .free ∧ t.stc.holdEntryTime = s.now
              ∧ t.rsq.reholdWindow = none ∧ t.rsq.releaseCompleted = none
              ∧ t.rsq.abortFlag = s.rsq.abortFlag ∧ t.rsq.abortCount = s.rsq.abortCount
              ∧ t.crm.eOwn = s.crm.eOwn ∧ t.crm.left = s.crm.left ∧ t.crm.right = s.crm.right ∧ t.crm.d = s.crm.d
              ∧ (securing s = false → handoffReason s = false →
                  HoldsAgain s t ∧ t.crm.watch = true ∧ t.crm.rebase = s.crm.d ∧ t.crm.rollBase = s.crm.d))
          ∧ ((s.stc.lifted = true ∨ s.stc.loweringTimer.isSome = true) → s.suc.inhibit = false →
              s.ptb.vehicleStationary = false →
            ∃ t, exec (.statusNotice o p) s = .next t
              ∧ t.stc.state = .free ∧ t.rsq.reholdWindow = none ∧ t.rsq.releaseCompleted = none)))

/-! ### CONFIG -/

/-- A CONFIG notice from origin 8 (R162, R163): accepted once, in OFFLINE, FREE or STANDSTILL, with every field clamped to its
range and CONFIG_CLAMPED raised where one was; the same bytes again change nothing; others raise CONFIG_CONFLICT; and in any
other state, of another length or from another origin, it is counted as unclaimed. -/
def Obligations.ConfigTaken : Prop :=
  ∀ (p : List Byte) (s : State), listening s = true →
    (p.length = 12 → s.suc.lock = false →
        (s.stc.state = .offline ∨ s.stc.state = .free ∨ s.stc.state = .standstill) →
      ∃ t, exec (.configNotice 8 p) s = .next t
        ∧ t.suc = { s.suc with
            accepted := some p, vehicle := (readConfig p).clamped, lock := true, configWait := .ended,
            configTimer := none }
        ∧ t.suc.vehicle.inRanges
        ∧ hasFault t .configClamped
            = (hasFault s .configClamped || decide ((readConfig p).clamped ≠ readConfig p)))
    ∧ (p.length = 12 → s.suc.lock = true → s.suc.accepted = some p →
      exec (.configNotice 8 p) s = .next { s with lnk := s.lnk.heard })
    ∧ (p.length = 12 → s.suc.lock = true → s.suc.accepted ≠ some p →
      ∃ t, exec (.configNotice 8 p) s = .next t ∧ t.suc = s.suc ∧ hasFault t .configConflict = true
        ∧ t.lnk.unclaimed = satInc 65535 s.lnk.unclaimed)
    ∧ ((p.length ≠ 12 ∨ (s.suc.lock = false ∧ s.stc.state ≠ .offline ∧ s.stc.state ≠ .free
          ∧ s.stc.state ≠ .standstill)) →
      ∃ t, exec (.configNotice 8 p) s = .next t ∧ t.suc = s.suc ∧ t.stc = s.stc
        ∧ t.lnk.unclaimed = satInc 65535 s.lnk.unclaimed)
    ∧ (∀ o : Origin, o ≠ 8 → o.val ≠ (own s).val →
      ∃ t, exec (.configNotice o p) s = .next t ∧ t.suc = s.suc ∧ t.stc = s.stc
        ∧ t.lnk.unclaimed = satInc 65535 s.lnk.unclaimed)

/-! ### The link -/

/-- The frames nobody takes (R147, R149): an invalid frame raises the check-failure count alone; a valid frame that no row of Table
9-2 takes raises the received and the unclaimed counts, starts the receive timer again and changes nothing else, but that in LOST
it raises the received-frame mark, and with the acknowledged mark set as well the fourth takes the link to ACTIVE (R154); before
listening neither does anything. -/
def Obligations.FramesNobodyTakes : Prop :=
  ∀ (s : State) (r : InvalidReason) (f : Frame),
    (listening s = true →
      exec (.invalidFrame r) s
        = .next { s with lnk := { s.lnk with checkFailures := satInc 65535 s.lnk.checkFailures } })
    ∧ (frameRow (own s) f = .unclaimedValidFrame f → listening s = true →
      (s.lnk.link ≠ some .lost →
        exec (.unclaimedValidFrame f) s
          = .next { s with lnk := { s.lnk with
              unclaimed := satInc 65535 s.lnk.unclaimed, validFrames := satInc 65535 s.lnk.validFrames
              receiveTimer := some 1000 } })
      ∧ (s.lnk.link = some .lost → (s.lnk.recoveryAck = false ∨ s.lnk.recoveryFrames < 3) →
        exec (.unclaimedValidFrame f) s
          = .next { s with lnk := { s.lnk with
              unclaimed := satInc 65535 s.lnk.unclaimed, validFrames := satInc 65535 s.lnk.validFrames
              receiveTimer := some 1000, recoveryFrames := satInc 4 s.lnk.recoveryFrames } })
      ∧ (s.lnk.link = some .lost → s.lnk.recoveryAck = true → 3 ≤ s.lnk.recoveryFrames →
        exec (.unclaimedValidFrame f) s
          = .next { s with lnk := { s.lnk with
              unclaimed := satInc 65535 s.lnk.unclaimed, validFrames := satInc 65535 s.lnk.validFrames
              receiveTimer := some 1000, link := some .active, recoveryAck := false, recoveryFrames := 0 } }))
    ∧ (listening s = false →
      exec (.invalidFrame r) s = .next s ∧ exec (.unclaimedValidFrame f) s = .next s)

/-- The start of a transmission frames the notice of the filled slot of the lowest class, in the order ALARM, HANDOFF, STATUS, DIAG
(R148, R150); a lost arbitration leaves every slot and count as it was (R148). -/
def Obligations.TransmissionStarts : Prop :=
  ∀ s : State,
    (listening s = true → s.lnk.transmission = none →
      (∀ a, s.lnk.alarmSlot = some a →
        ∃ t, exec .transmitStart s = .next t ∧ t.lnk.transmission.map Transmission.frame
          = some { cls := 0, origin := ownOrigin s, payload := alarmPayload (own s) a })
      ∧ (∀ h, s.lnk.alarmSlot = none → s.lnk.handoffSlot = some h →
        ∃ t, exec .transmitStart s = .next t ∧ t.lnk.transmission.map Transmission.frame
          = some { cls := 1, origin := ownOrigin s, payload := handoffPayload (own s) s.hpl.a h })
      ∧ (s.lnk.alarmSlot = none → s.lnk.handoffSlot = none → s.lnk.statusPending = true →
        ∃ t, exec .transmitStart s = .next t ∧ t.lnk.transmission.map Transmission.frame
          = some { cls := 3, origin := ownOrigin s, payload := statusPayload (entryOf s (own s)) })
      ∧ (∀ d, s.lnk.alarmSlot = none → s.lnk.handoffSlot = none → s.lnk.statusPending = false →
          s.lnk.diagSlot = some d →
        ∃ t, exec .transmitStart s = .next t ∧ t.lnk.transmission.map Transmission.frame
          = some { cls := 6, origin := ownOrigin s, payload := diagPayload d }))
    ∧ exec .arbitrationLost s = .next { s with lnk := { s.lnk with transmission := none } }

/-- LNK moves between ACTIVE and DEGRADED on the consecutive-failure count and to LOST at 32 (R151 to R154). Every failed attempt, by
an error or for want of an acknowledgement, raises the count by one, up to 255, and leaves the slots; an acknowledged one sets
it to 0, empties the slot it sent unless newer content was placed, takes DEGRADED to ACTIVE, and in LOST sets the acknowledged
mark, or with four frames received ends LOST. Of a settled station nothing else changes, unless the link becomes LOST by it. -/
def Obligations.FailuresMoveTheLink : Prop :=
  ∀ (s : State) (x : Transmission), s.lnk.transmission = some x →
    (∃ t, exec .transmitError s = .next t ∧ exec (.frameCompleted false) s = .next t
      ∧ t.lnk.failures = satInc 255 s.lnk.failures ∧ t.lnk.diagSlot = s.lnk.diagSlot
      ∧ (s.lnk.link = some .active → s.lnk.failures < 7 → t.lnk.link = some .active)
      ∧ (s.lnk.link = some .active → s.lnk.failures = 7 → t.lnk.link = some .degraded)
      ∧ (s.lnk.link = some .degraded → s.lnk.failures < 31 → t.lnk.link = some .degraded)
      ∧ (s.lnk.link = some .degraded → s.lnk.failures = 31 →
          t.lnk.link = some .lost ∧ hasFault t .linkLost = true)
      ∧ (s.lnk.link = some .lost → t.lnk.link = some .lost ∧ t.lnk.recoveryAck = false)
      ∧ (Settled s → (t.lnk.link = some .lost → s.lnk.link = some .lost) →
          t = { s with lnk := { s.lnk with
              transmission := none, failures := satInc 255 s.lnk.failures, recoveryAck := false, link := t.lnk.link } }))
    ∧ (∃ t, exec (.frameCompleted true) s = .next t
      ∧ t.lnk.failures = 0
      ∧ (s.lnk.link = some .active → t.lnk.link = some .active)
      ∧ (s.lnk.link = some .degraded → t.lnk.link = some .active)
      ∧ (s.lnk.link = some .lost → s.lnk.recoveryFrames < 4 → t.lnk.link = some .lost ∧ t.lnk.recoveryAck = true)
      ∧ (s.lnk.link = some .lost → 4 ≤ s.lnk.recoveryFrames → t.lnk.link = some .active)
      ∧ (x.slot = .diag → t.lnk.diagSlot = (if x.renewed then s.lnk.diagSlot else none))
      ∧ (Settled s →
          t = { s with lnk := { s.lnk with
              alarmSlot := if x.slot = .alarm ∧ x.renewed = false then none else s.lnk.alarmSlot
              handoffSlot := if x.slot = .handoff ∧ x.renewed = false then none else s.lnk.handoffSlot
              statusPending := if x.slot = .status ∧ x.renewed = false then false else s.lnk.statusPending
              diagSlot := if x.slot = .diag ∧ x.renewed = false then none else s.lnk.diagSlot
              transmission := none, failures := 0, link := t.lnk.link, recoveryAck := t.lnk.recoveryAck
              recoveryFrames := t.lnk.recoveryFrames } }))

/-- The receive timer takes the link to LOST and raises LINK_LOST, and in LOST starts again with the received-frame mark at
0 (R153, R154); the announce timer calls for a STATUS and starts again with the period of the present state's class, 100 ms
in the passive states and 20 ms in the others (R155). Taken whenever the timer runs (log entry 2). -/
def Obligations.LinkTimers : Prop :=
  (∀ s : State, s.lnk.receiveTimer.isSome = true →
      (s.lnk.link ≠ some .lost →
        ∃ t, exec .receiveTimerExpiry s = .next t ∧ t.lnk.link = some .lost ∧ hasFault t .linkLost = true
          ∧ t.lnk.recoveryAck = false ∧ t.lnk.recoveryFrames = 0)
      ∧ (s.lnk.link = some .lost →
        exec .receiveTimerExpiry s
          = .next { s with lnk := { s.lnk with receiveTimer := some 1000, recoveryFrames := 0 } }))
    ∧ (∀ s : State, s.lnk.announceTimer.isSome = true →
        ∃ t, exec .announceTimerExpiry s = .next t ∧ t.lnk.statusPending = true
          ∧ t.lnk.announceTimer = some (if s.stc.state = .offline ∨ s.stc.state = .free ∨ s.stc.state = .service
              ∨ s.stc.state = .failed then 100 else 20)
          ∧ SameStation s t ∧ t.lnk.handoffSlot = s.lnk.handoffSlot ∧ t.lnk.alarmSlot = s.lnk.alarmSlot)

/-! ### The diagnostic exchange -/

/-- How READ, WRITE and unknown requests are answered (R165 to R167). A READ of a part that exists is answered DONE with its value, the
last part marked; of an item or part that does not exist NOT_HELD with all ones; of a record item or item 240 REFUSED. A WRITE of any
known item but 240 is answered REFUSED and of an unknown one NOT_HELD; an opcode with no meaning, 5 or above, NOT_HELD with all
ones. Nothing but the answer changes by any of them. A request for another station or from no service tool, of any opcode, is
counted as unclaimed and changes nothing else (R149). The values are those of the item map as the model reads it (log entries 11
and 12), with an accepted CONFIG content that is none one part of all ones (log entry 41), and they are read after the frame that
carries the request has been heard: that a frame which ends LOST does so before its request is answered is the model's choice
(log entry 40). -/
def Obligations.ReadsAndRefusals : Prop :=
  (∀ (q : DiagRequest) (s : State), Asked q s →
      (∀ vs v, itemValues { s with lnk := s.lnk.heard } q.item.toNat = some vs → vs[q.part.toNat]? = some v →
        ∃ t, exec (.diagRead q) s = .next t ∧ OnlyAnswers s t
          ∧ t.lnk.diagSlot = some { item := q.item, result := .done, part := q.part,
                                    last := decide (q.part.toNat + 1 = vs.length), body := valueBytes v })
      ∧ ((∀ vs, itemValues { s with lnk := s.lnk.heard } q.item.toNat = some vs → vs.length ≤ q.part.toNat) →
          isRecord q.item.toNat = false → q.item.toNat ≠ 240 →
        ∃ t a, exec (.diagRead q) s = .next t ∧ OnlyAnswers s t ∧ t.lnk.diagSlot = some a
          ∧ a.item = q.item ∧ a.part = q.part ∧ a.result = .notHeld ∧ a.body = [255, 255, 255, 255])
      ∧ ((isRecord q.item.toNat = true ∨ q.item = 240) →
        ∃ t a, exec (.diagRead q) s = .next t ∧ OnlyAnswers s t ∧ t.lnk.diagSlot = some a
          ∧ a.item = q.item ∧ a.part = q.part ∧ a.result = .refused))
    ∧ (∀ (q : DiagRequest) (op : Byte) (s : State),
        (Asked q s → q.item ≠ 240 →
          ∃ t a, exec (.diagWrite q) s = .next t ∧ OnlyAnswers s t ∧ t.lnk.diagSlot = some a
            ∧ a.item = q.item ∧ a.part = q.part
            ∧ a.result = (if isKnown { s with lnk := s.lnk.heard } q.item.toNat then .refused else .notHeld))
        ∧ (Asked q s → 5 ≤ op.toNat →
          ∃ t a, exec (.diagUnknownOpcode q op) s = .next t ∧ OnlyAnswers s t ∧ t.lnk.diagSlot = some a
            ∧ a.item = q.item ∧ a.part = q.part ∧ a.result = .notHeld ∧ a.body = [255, 255, 255, 255])
        ∧ (Hears q.origin s → (q.origin.val < 14 ∨ q.target.toNat ≠ (own s).val) →
          ∀ c, (c = .diagRead q ∨ c = .diagClear q ∨ c = .diagWrite q ∨ c = .diagRecord q ∨ c = .diagTest q
              ∨ (c = .diagUnknownOpcode q op ∧ 5 ≤ op.toNat)) →
            exec c s = .next { s with lnk := { s.lnk.heard with unclaimed := satInc 65535 s.lnk.unclaimed } }))

/-- A CLEAR of a flag item is passed to STC (R22, R167): answered REFUSED with the flag still set where the condition of the last
column of Table 1-3 is present, and DONE otherwise, the flag of a settled station clear after it (QUEUE_OVERRUN of one whose join
is as its state asks) and the answer showing it clear. SHORTFALL and SPRING_SHORTFALL are left as
they are, REFUSED where set and DONE where clear. A CLEAR of any other known item is refused, and of an unknown one NOT_HELD;
neither changes a flag. The condition is that after the frame of the request has been heard: that a CLEAR of LINK_LOST which is
itself the fourth frame of the recovery is answered DONE is the model's choice (log entry 40), not a rule. -/
def Obligations.ClearAnswers : Prop :=
  ∀ (q : DiagRequest) (s : State), Asked q s →
    (∀ f, 24 ≤ q.item.toNat → allFlags[q.item.toNat - 24]? = some f → f.sticky = true →
      (hasFault s f = true → clearBlocked { s with lnk := s.lnk.heard } f = true →
        ∃ t, exec (.diagClear q) s = .next t ∧ hasFault t f = true
          ∧ t.lnk.diagSlot.map DiagAnswer.result = some .refused
          ∧ t.lnk.diagSlot.map DiagAnswer.body = some [0, 0, 0, 1])
      ∧ ((hasFault s f = false ∨ clearBlocked { s with lnk := s.lnk.heard } f = false) →
        ∃ t, exec (.diagClear q) s = .next t
          ∧ t.lnk.diagSlot.map DiagAnswer.result = some .done
          ∧ t.lnk.diagSlot.map DiagAnswer.body = some [0, 0, 0, 0]
          ∧ (Settled s → (f = .queueOverrun → JoinRight s) → hasFault t f = false)
          ∧ (hasFault s f = false → Settled s → t.stc = s.stc)))
    ∧ (∀ f, 24 ≤ q.item.toNat → allFlags[q.item.toNat - 24]? = some f → f.sticky = false → Settled s →
      ∃ t, exec (.diagClear q) s = .next t ∧ t.stc = s.stc
        ∧ t.lnk.diagSlot.map DiagAnswer.result = some (if hasFault s f then .refused else .done))
    ∧ ((q.item.toNat < 24 ∨ 40 ≤ q.item.toNat) →
      ∃ t, exec (.diagClear q) s = .next t ∧ t.stc = s.stc
        ∧ t.lnk.diagSlot.map DiagAnswer.result
            = some (if isKnown { s with lnk := s.lnk.heard } q.item.toNat then .refused else .notHeld))

/-- A TEST request, or a WRITE of item 240 (R167, R169): outside SERVICE, without vehicle-stationary, or beyond 1000 kPa or
10000 kPa/s, it is answered REFUSED and appends nothing; otherwise TEST is joined and the step appended and answered DONE with
the target as clamped, or BUSY where sixteen steps wait. That the target is the whole value of the answer, low-order, is the model's
choice (log entry 43). -/
def Obligations.TestTaken : Prop :=
  ∀ (q : DiagRequest) (c : Instr) (s : State), Asked q s → (c = .diagTest q ∨ (c = .diagWrite q ∧ q.item = 240)) →
    ((s.stc.state ≠ .service ∨ s.ptb.vehicleStationary = false ∨ 1000 < testTarget q ∨ 10000 < testRate q) →
      ∃ t, exec c s = .next t ∧ t.mod = s.mod ∧ t.lnk.diagSlot.map DiagAnswer.result = some .refused)
    ∧ (Settled s → s.stc.state = .service → s.ptb.vehicleStationary = true → testTarget q ≤ 1000 →
        testRate q ≤ 10000 → s.suc.inhibit = true → failureRaised s = false →
        (s.mod.join = .idleVent ∨ s.mod.join = .test) → (s.mod.join = .test → s.mod.queue.length < 16) →
      ∃ t, exec c s = .next t ∧ t.stc.state = .service ∧ t.mod.join = .test ∧ t.mod.parkCmd = s.mod.parkCmd
        ∧ t.lnk.diagSlot.map DiagAnswer.result = some .done
        ∧ t.lnk.diagSlot.map DiagAnswer.body
            = some (valueBytes (BitVec.ofNat 32 (min (testTarget q) s.hpl.pTop)))
        ∧ (s.mod.join = .test → s.mod.inFlight.isSome = true →
            t.mod.queue = s.mod.queue ++ [clampStep s.hpl.pTop (testStep q)]))
    ∧ (Settled s → s.stc.state = .service → s.ptb.vehicleStationary = true → testTarget q ≤ 1000 →
        testRate q ≤ 10000 → s.suc.inhibit = true → failureRaised s = false →
        s.mod.join = .test → s.mod.queue.length = 16 →
      ∃ t, exec c s = .next t ∧ t.mod.queue = s.mod.queue ∧ hasFault t .queueOverrun = true
        ∧ t.lnk.diagSlot.map DiagAnswer.result = some .busy)

/-- A RECORD request (R168): part 0 copies the record and opens the cursor on it; a further part is answered from the copy, and
the last part is marked; a part without a cursor on that item, or beyond the last, is answered NOT_HELD and opens none; an item
that is no record is answered NOT_HELD where it is unknown and REFUSED where it is known. -/
def Obligations.RecordAnswers : Prop :=
  ∀ (q : DiagRequest) (s : State), Asked q s →
    (isRecord q.item.toNat = true →
      (q.part = 0 → ∀ b, (recordParts { s with lnk := s.lnk.heard } q.item.toNat)[0]? = some b →
        ∃ t, exec (.diagRecord q) s = .next t
          ∧ t.dgr.cursor
              = some { item := q.item.toNat, parts := recordParts { s with lnk := s.lnk.heard } q.item.toNat }
          ∧ t.lnk.diagSlot
              = some { item := q.item, result := .done, part := 0,
                       last := decide ((recordParts { s with lnk := s.lnk.heard } q.item.toNat).length = 1), body := b })
      ∧ (∀ k b, q.part ≠ 0 → s.dgr.cursor = some k → k.item = q.item.toNat → k.parts[q.part.toNat]? = some b →
        ∃ t, exec (.diagRecord q) s = .next t ∧ t.dgr = s.dgr
          ∧ t.lnk.diagSlot
              = some { item := q.item, result := .done, part := q.part,
                       last := decide (q.part.toNat + 1 = k.parts.length), body := b })
      ∧ (q.part ≠ 0 → (∀ k, s.dgr.cursor = some k → k.item ≠ q.item.toNat ∨ k.parts.length ≤ q.part.toNat) →
        ∃ t, exec (.diagRecord q) s = .next t ∧ t.dgr = s.dgr
          ∧ t.lnk.diagSlot.map DiagAnswer.result = some .notHeld))
    ∧ (isRecord q.item.toNat = false →
      ∃ t, exec (.diagRecord q) s = .next t ∧ t.dgr = s.dgr
        ∧ t.lnk.diagSlot.map DiagAnswer.result
            = some (if isKnown { s with lnk := s.lnk.heard } q.item.toNat then .refused else .notHeld))

end
end

