-- ==== Sys2Proof/Laws/PerInstr.lean ====
section
/-! SUPPORT. A statement made of each command as syntax: the frame a well-formed command stands for carries at most twelve
payload bytes (R147). -/

namespace Sys2Proof.Laws

-- One theorem at a time: hundreds of small ones at once take more threads than a build may have.
set_option Elab.async false

/-- A well-formed command fits a frame of the hold link. -/
def FitsAFrame.Statement (i : Instr) : Prop := i.wellFormed = true → i.payloadLength ≤ payloadLimit

theorem FitsAFrame.reset (pins : StrapPins) :
    FitsAFrame.Statement (.reset pins) := by
  intro _; simp [Instr.payloadLength, payloadLimit]
theorem FitsAFrame.parameterMemoryReadEnd (bytes : List Byte) (ending : ReadEnding) :
    FitsAFrame.Statement (.parameterMemoryReadEnd bytes ending) := by
  intro _; simp [Instr.payloadLength, payloadLimit]
theorem FitsAFrame.configWaitExpiry :
    FitsAFrame.Statement .configWaitExpiry := by
  intro _; simp [Instr.payloadLength, payloadLimit]
theorem FitsAFrame.inhibitSample (asserted : Bool) :
    FitsAFrame.Statement (.inhibitSample asserted) := by
  intro _; simp [Instr.payloadLength, payloadLimit]
theorem FitsAFrame.accelerometerSample (reading : Option Int) :
    FitsAFrame.Statement (.accelerometerSample reading) := by
  intro _; simp [Instr.payloadLength, payloadLimit]
theorem FitsAFrame.loadSample (raw : BitVec 12) :
    FitsAFrame.Statement (.loadSample raw) := by
  intro _; simp [Instr.payloadLength, payloadLimit]
theorem FitsAFrame.chamberPressureSample (raw : BitVec 12) :
    FitsAFrame.Statement (.chamberPressureSample raw) := by
  intro _; simp [Instr.payloadLength, payloadLimit]
theorem FitsAFrame.supplySample (raw : BitVec 12) :
    FitsAFrame.Statement (.supplySample raw) := by
  intro _; simp [Instr.payloadLength, payloadLimit]
theorem FitsAFrame.valveDriverFault (driver : ValveDriver) (report : DriverReport) :
    FitsAFrame.Statement (.valveDriverFault driver report) := by
  intro _; simp [Instr.payloadLength, payloadLimit]
theorem FitsAFrame.wheelPulse (wheel : Wheel) (dir : Direction) :
    FitsAFrame.Statement (.wheelPulse wheel dir) := by
  intro _; simp [Instr.payloadLength, payloadLimit]
theorem FitsAFrame.standstillTimerExpiry :
    FitsAFrame.Statement .standstillTimerExpiry := by
  intro _; simp [Instr.payloadLength, payloadLimit]
theorem FitsAFrame.vehicleStationaryTimerExpiry :
    FitsAFrame.Statement .vehicleStationaryTimerExpiry := by
  intro _; simp [Instr.payloadLength, payloadLimit]
theorem FitsAFrame.springApplyTimerExpiry :
    FitsAFrame.Statement .springApplyTimerExpiry := by
  intro _; simp [Instr.payloadLength, payloadLimit]
theorem FitsAFrame.holdTimeTimerExpiry :
    FitsAFrame.Statement .holdTimeTimerExpiry := by
  intro _; simp [Instr.payloadLength, payloadLimit]
theorem FitsAFrame.loweringTimerExpiry :
    FitsAFrame.Statement .loweringTimerExpiry := by
  intro _; simp [Instr.payloadLength, payloadLimit]
theorem FitsAFrame.plausibilityTimerExpiry :
    FitsAFrame.Statement .plausibilityTimerExpiry := by
  intro _; simp [Instr.payloadLength, payloadLimit]
theorem FitsAFrame.limitTimerExpiry :
    FitsAFrame.Statement .limitTimerExpiry := by
  intro _; simp [Instr.payloadLength, payloadLimit]
theorem FitsAFrame.decreaseWaitExpiry :
    FitsAFrame.Statement .decreaseWaitExpiry := by
  intro _; simp [Instr.payloadLength, payloadLimit]
theorem FitsAFrame.cabNotice (origin : Origin) (payload : List Byte) :
    FitsAFrame.Statement (.cabNotice origin payload) := by
  intro h; simpa [Instr.wellFormed, Instr.payloadLength, payloadFits, bodyFits] using h
theorem FitsAFrame.cabRecordStaling :
    FitsAFrame.Statement .cabRecordStaling := by
  intro _; simp [Instr.payloadLength, payloadLimit]
theorem FitsAFrame.drumNotice (origin : Origin) (payload : List Byte) :
    FitsAFrame.Statement (.drumNotice origin payload) := by
  intro h; simpa [Instr.wellFormed, Instr.payloadLength, payloadFits, bodyFits] using h
theorem FitsAFrame.drumRecordStaling :
    FitsAFrame.Statement .drumRecordStaling := by
  intro _; simp [Instr.payloadLength, payloadLimit]
theorem FitsAFrame.statusNotice (origin : Origin) (payload : List Byte) :
    FitsAFrame.Statement (.statusNotice origin payload) := by
  intro h; simpa [Instr.wellFormed, Instr.payloadLength, payloadFits, bodyFits] using h
theorem FitsAFrame.entryStalenessDeadline (n : StationNo) :
    FitsAFrame.Statement (.entryStalenessDeadline n) := by
  intro _; simp [Instr.payloadLength, payloadLimit]
theorem FitsAFrame.entryAbsent (n : StationNo) :
    FitsAFrame.Statement (.entryAbsent n) := by
  intro _; simp [Instr.payloadLength, payloadLimit]
theorem FitsAFrame.alarmNotice (origin : Origin) (payload : List Byte) :
    FitsAFrame.Statement (.alarmNotice origin payload) := by
  intro h; simpa [Instr.wellFormed, Instr.payloadLength, payloadFits, bodyFits] using h
theorem FitsAFrame.handoffRequest (origin : Origin) (body : List Byte) :
    FitsAFrame.Statement (.handoffRequest origin body) := by
  intro h; simpa [Instr.wellFormed, Instr.payloadLength, payloadFits, bodyFits] using h
theorem FitsAFrame.handoffReply (origin : Origin) (body : List Byte) :
    FitsAFrame.Statement (.handoffReply origin body) := by
  intro h; simpa [Instr.wellFormed, Instr.payloadLength, payloadFits, bodyFits] using h
theorem FitsAFrame.handoffCancel (origin : Origin) (body : List Byte) :
    FitsAFrame.Statement (.handoffCancel origin body) := by
  intro h; simpa [Instr.wellFormed, Instr.payloadLength, payloadFits, bodyFits] using h
theorem FitsAFrame.attemptTimerExpiry :
    FitsAFrame.Statement .attemptTimerExpiry := by
  intro _; simp [Instr.payloadLength, payloadLimit]
theorem FitsAFrame.retryWaitExpiry :
    FitsAFrame.Statement .retryWaitExpiry := by
  intro _; simp [Instr.payloadLength, payloadLimit]
theorem FitsAFrame.driveOffTimerExpiry :
    FitsAFrame.Statement .driveOffTimerExpiry := by
  intro _; simp [Instr.payloadLength, payloadLimit]
theorem FitsAFrame.turnTimerExpiry :
    FitsAFrame.Statement .turnTimerExpiry := by
  intro _; simp [Instr.payloadLength, payloadLimit]
theorem FitsAFrame.lapseTimerExpiry :
    FitsAFrame.Statement .lapseTimerExpiry := by
  intro _; simp [Instr.payloadLength, payloadLimit]
theorem FitsAFrame.abortFlagTimerExpiry :
    FitsAFrame.Statement .abortFlagTimerExpiry := by
  intro _; simp [Instr.payloadLength, payloadLimit]
theorem FitsAFrame.reholdWindowExpiry :
    FitsAFrame.Statement .reholdWindowExpiry := by
  intro _; simp [Instr.payloadLength, payloadLimit]
theorem FitsAFrame.configNotice (origin : Origin) (payload : List Byte) :
    FitsAFrame.Statement (.configNotice origin payload) := by
  intro h; simpa [Instr.wellFormed, Instr.payloadLength, payloadFits, bodyFits] using h
theorem FitsAFrame.foreignOwnOriginFrame (cls : Fin 8) (payload : List Byte) :
    FitsAFrame.Statement (.foreignOwnOriginFrame cls payload) := by
  intro h; simpa [Instr.wellFormed, Instr.payloadLength, payloadFits, bodyFits] using h
theorem FitsAFrame.invalidFrame (reason : InvalidReason) :
    FitsAFrame.Statement (.invalidFrame reason) := by
  intro _; simp [Instr.payloadLength, payloadLimit]
theorem FitsAFrame.transmitStart :
    FitsAFrame.Statement .transmitStart := by
  intro _; simp [Instr.payloadLength, payloadLimit]
theorem FitsAFrame.arbitrationLost :
    FitsAFrame.Statement .arbitrationLost := by
  intro _; simp [Instr.payloadLength, payloadLimit]
theorem FitsAFrame.transmitError :
    FitsAFrame.Statement .transmitError := by
  intro _; simp [Instr.payloadLength, payloadLimit]
theorem FitsAFrame.frameCompleted (acknowledged : Bool) :
    FitsAFrame.Statement (.frameCompleted acknowledged) := by
  intro _; simp [Instr.payloadLength, payloadLimit]
theorem FitsAFrame.receiveTimerExpiry :
    FitsAFrame.Statement .receiveTimerExpiry := by
  intro _; simp [Instr.payloadLength, payloadLimit]
theorem FitsAFrame.announceTimerExpiry :
    FitsAFrame.Statement .announceTimerExpiry := by
  intro _; simp [Instr.payloadLength, payloadLimit]
theorem FitsAFrame.diagRead (q : DiagRequest) :
    FitsAFrame.Statement (.diagRead q) := by
  intro _; simp [Instr.payloadLength, payloadLimit]
theorem FitsAFrame.diagClear (q : DiagRequest) :
    FitsAFrame.Statement (.diagClear q) := by
  intro _; simp [Instr.payloadLength, payloadLimit]
theorem FitsAFrame.diagWrite (q : DiagRequest) :
    FitsAFrame.Statement (.diagWrite q) := by
  intro _; simp [Instr.payloadLength, payloadLimit]
theorem FitsAFrame.diagRecord (q : DiagRequest) :
    FitsAFrame.Statement (.diagRecord q) := by
  intro _; simp [Instr.payloadLength, payloadLimit]
theorem FitsAFrame.diagTest (q : DiagRequest) :
    FitsAFrame.Statement (.diagTest q) := by
  intro _; simp [Instr.payloadLength, payloadLimit]
theorem FitsAFrame.diagUnknownOpcode (q : DiagRequest) (opcode : Byte) :
    FitsAFrame.Statement (.diagUnknownOpcode q opcode) := by
  intro _; simp [Instr.payloadLength, payloadLimit]
theorem FitsAFrame.unclaimedValidFrame (f : Frame) :
    FitsAFrame.Statement (.unclaimedValidFrame f) := by
  intro h; simp only [Instr.wellFormed, payloadFits, Bool.and_eq_true, decide_eq_true_eq] at h; exact h.1

end Sys2Proof.Laws
end

