-- ==== Sys2Proof/Laws/State.lean ====
section
/-! SUPPORT. One lemma for each field and each update of the state, true by unfolding, and the laws of the table of eight
values. -/

namespace Sys2Proof

-- One theorem at a time: hundreds of small ones at once take more threads than a build may have.
set_option Elab.async false

/-! ### The table of eight values -/

/-- Reading the value just written. -/
@[simp] theorem Table.get_set_self {α : Type} (t : Table α) (n : StationNo) (a : α) : (t.set n a).get n = a := by
  fin_cases n <;> rfl

/-- A write leaves every other value alone. -/
theorem Table.get_set_of_ne {α : Type} (t : Table α) {m n : StationNo} (a : α) (h : m ≠ n) :
    (t.set n a).get m = t.get m := by
  fin_cases n <;> fin_cases m <;> first | rfl | exact absurd rfl h

/-- The later of two writes to one place stands. -/
@[simp] theorem Table.set_set {α : Type} (t : Table α) (n : StationNo) (a b : α) : (t.set n a).set n b = t.set n b := by
  fin_cases n <;> rfl

/-- Writing the value that stands changes nothing. -/
@[simp] theorem Table.set_get {α : Type} (t : Table α) (n : StationNo) : t.set n (t.get n) = t := by
  fin_cases n <;> rfl

/-- Two tables that agree at every place are equal. -/
theorem Table.ext_get {α : Type} (t u : Table α) (h : ∀ n, t.get n = u.get n) : t = u := by
  cases t; cases u
  have h0 := h 0; have h1 := h 1; have h2 := h 2; have h3 := h 3
  have h4 := h 4; have h5 := h 5; have h6 := h 6; have h7 := h 7
  simp only [Table.get] at *
  simp_all

@[simp] theorem Table.get_fill {α : Type} (a : α) (n : StationNo) : (Table.fill a).get n = a := by
  fin_cases n <;> rfl

@[simp] theorem Table.get_map {α : Type} (f : α → α) (t : Table α) (n : StationNo) : (t.map f).get n = f (t.get n) := by
  fin_cases n <;> rfl

end Sys2Proof

namespace Sys2Proof.Machine

-- One theorem at a time: hundreds of small ones at once take more threads than a build may have.
set_option Elab.async false

/-! ### The fault set -/

/-- The flag just written. -/
@[simp] theorem FaultSet.get_put_self (fs : FaultSet) (f : Flag) (b : Bool) : (fs.put f b).get f = b := by
  cases f <;> rfl

/-- Every other flag. -/
theorem FaultSet.get_put_of_ne (fs : FaultSet) {f g : Flag} (b : Bool) (h : g ≠ f) : (fs.put f b).get g = fs.get g := by
  cases f <;> cases g <;> first | rfl | exact absurd rfl h

/-- A change of state leaves the sticky flags alone. -/
theorem FaultSet.get_atChange (f t : StationState) (fs : FaultSet) (g : Flag) (h : g ≠ .shortfall ∧ g ≠ .springShortfall) :
    (fs.atChange f t).get g = fs.get g := by
  cases g <;> first | rfl | exact absurd rfl h.1 | exact absurd rfl h.2


/-! ### `putFault` -/

@[simp] theorem putFault_pending (f : Flag) (b : Bool) (s : State) : (putFault f b s).pending = s.pending := rfl
@[simp] theorem putFault_freeCount (f : Flag) (b : Bool) (s : State) : (putFault f b s).freeCount = s.freeCount := rfl
@[simp] theorem putFault_now (f : Flag) (b : Bool) (s : State) : (putFault f b s).now = s.now := rfl
@[simp] theorem putFault_stc (f : Flag) (b : Bool) (s : State) :
    (putFault f b s).stc = { s.stc with faults := s.stc.faults.put f b } := rfl
@[simp] theorem putFault_alarm (f : Flag) (b : Bool) (s : State) : (putFault f b s).alarm = s.alarm := rfl
@[simp] theorem putFault_ptb (f : Flag) (b : Bool) (s : State) : (putFault f b s).ptb = s.ptb := rfl
@[simp] theorem putFault_glu (f : Flag) (b : Bool) (s : State) : (putFault f b s).glu = s.glu := rfl
@[simp] theorem putFault_hpl (f : Flag) (b : Bool) (s : State) : (putFault f b s).hpl = s.hpl := rfl
@[simp] theorem putFault_mod (f : Flag) (b : Bool) (s : State) : (putFault f b s).mod = s.mod := rfl
@[simp] theorem putFault_crm (f : Flag) (b : Bool) (s : State) : (putFault f b s).crm = s.crm := rfl
@[simp] theorem putFault_hoe (f : Flag) (b : Bool) (s : State) : (putFault f b s).hoe = s.hoe := rfl
@[simp] theorem putFault_rsq (f : Flag) (b : Bool) (s : State) : (putFault f b s).rsq = s.rsq := rfl
@[simp] theorem putFault_lnk (f : Flag) (b : Bool) (s : State) : (putFault f b s).lnk = s.lnk := rfl
@[simp] theorem putFault_suc (f : Flag) (b : Bool) (s : State) : (putFault f b s).suc = s.suc := rfl
@[simp] theorem putFault_dgr (f : Flag) (b : Bool) (s : State) : (putFault f b s).dgr = s.dgr := rfl

/-- The flag just put. -/
@[simp] theorem hasFault_putFault_self (f : Flag) (b : Bool) (s : State) : hasFault (putFault f b s) f = b := by
  simp [hasFault]

/-- Every other flag. -/
theorem hasFault_putFault_of_ne {f g : Flag} (b : Bool) (s : State) (h : g ≠ f) :
    hasFault (putFault f b s) g = hasFault s g := by
  simp [hasFault, FaultSet.get_put_of_ne _ b h]

/-! ### `callStatus` -/

@[simp] theorem callStatus_pending (s : State) : (callStatus s).pending = s.pending := rfl
@[simp] theorem callStatus_freeCount (s : State) : (callStatus s).freeCount = s.freeCount := rfl
@[simp] theorem callStatus_agenda (s : State) : (callStatus s).agenda = s.agenda := rfl
@[simp] theorem callStatus_now (s : State) : (callStatus s).now = s.now := rfl
@[simp] theorem callStatus_stc (s : State) : (callStatus s).stc = s.stc := rfl
@[simp] theorem callStatus_alarm (s : State) : (callStatus s).alarm = s.alarm := rfl
@[simp] theorem callStatus_ptb (s : State) : (callStatus s).ptb = s.ptb := rfl
@[simp] theorem callStatus_glu (s : State) : (callStatus s).glu = s.glu := rfl
@[simp] theorem callStatus_hpl (s : State) : (callStatus s).hpl = s.hpl := rfl
@[simp] theorem callStatus_mod (s : State) : (callStatus s).mod = s.mod := rfl
@[simp] theorem callStatus_crm (s : State) : (callStatus s).crm = s.crm := rfl
@[simp] theorem callStatus_hoe (s : State) : (callStatus s).hoe = s.hoe := rfl
@[simp] theorem callStatus_rsq (s : State) : (callStatus s).rsq = s.rsq := rfl
@[simp] theorem callStatus_lnk (s : State) :
    (callStatus s).lnk = { s.lnk with statusPending := true, transmission := s.lnk.renew .status } := rfl
@[simp] theorem callStatus_suc (s : State) : (callStatus s).suc = s.suc := rfl
@[simp] theorem callStatus_dgr (s : State) : (callStatus s).dgr = s.dgr := rfl

/-! ### `placeAlarm` -/

@[simp] theorem placeAlarm_pending (a : AlarmNotice) (s : State) : (placeAlarm a s).pending = s.pending := rfl
@[simp] theorem placeAlarm_freeCount (a : AlarmNotice) (s : State) : (placeAlarm a s).freeCount = s.freeCount := rfl
@[simp] theorem placeAlarm_agenda (a : AlarmNotice) (s : State) : (placeAlarm a s).agenda = s.agenda := rfl
@[simp] theorem placeAlarm_now (a : AlarmNotice) (s : State) : (placeAlarm a s).now = s.now := rfl
@[simp] theorem placeAlarm_stc (a : AlarmNotice) (s : State) : (placeAlarm a s).stc = s.stc := rfl
@[simp] theorem placeAlarm_alarm (a : AlarmNotice) (s : State) : (placeAlarm a s).alarm = s.alarm := rfl
@[simp] theorem placeAlarm_ptb (a : AlarmNotice) (s : State) : (placeAlarm a s).ptb = s.ptb := rfl
@[simp] theorem placeAlarm_glu (a : AlarmNotice) (s : State) : (placeAlarm a s).glu = s.glu := rfl
@[simp] theorem placeAlarm_hpl (a : AlarmNotice) (s : State) : (placeAlarm a s).hpl = s.hpl := rfl
@[simp] theorem placeAlarm_mod (a : AlarmNotice) (s : State) : (placeAlarm a s).mod = s.mod := rfl
@[simp] theorem placeAlarm_crm (a : AlarmNotice) (s : State) : (placeAlarm a s).crm = s.crm := rfl
@[simp] theorem placeAlarm_hoe (a : AlarmNotice) (s : State) : (placeAlarm a s).hoe = s.hoe := rfl
@[simp] theorem placeAlarm_rsq (a : AlarmNotice) (s : State) : (placeAlarm a s).rsq = s.rsq := rfl
@[simp] theorem placeAlarm_lnk (a : AlarmNotice) (s : State) :
    (placeAlarm a s).lnk = { s.lnk with alarmSlot := some a, transmission := s.lnk.renew .alarm } := rfl
@[simp] theorem placeAlarm_suc (a : AlarmNotice) (s : State) : (placeAlarm a s).suc = s.suc := rfl
@[simp] theorem placeAlarm_dgr (a : AlarmNotice) (s : State) : (placeAlarm a s).dgr = s.dgr := rfl

/-! ### `placeHandoff` -/

@[simp] theorem placeHandoff_pending (h : HandoffNotice) (s : State) : (placeHandoff h s).pending = s.pending := rfl
@[simp] theorem placeHandoff_freeCount (h : HandoffNotice) (s : State) :
    (placeHandoff h s).freeCount = s.freeCount := rfl
@[simp] theorem placeHandoff_agenda (h : HandoffNotice) (s : State) : (placeHandoff h s).agenda = s.agenda := rfl
@[simp] theorem placeHandoff_now (h : HandoffNotice) (s : State) : (placeHandoff h s).now = s.now := rfl
@[simp] theorem placeHandoff_stc (h : HandoffNotice) (s : State) : (placeHandoff h s).stc = s.stc := rfl
@[simp] theorem placeHandoff_alarm (h : HandoffNotice) (s : State) : (placeHandoff h s).alarm = s.alarm := rfl
@[simp] theorem placeHandoff_ptb (h : HandoffNotice) (s : State) : (placeHandoff h s).ptb = s.ptb := rfl
@[simp] theorem placeHandoff_glu (h : HandoffNotice) (s : State) : (placeHandoff h s).glu = s.glu := rfl
@[simp] theorem placeHandoff_hpl (h : HandoffNotice) (s : State) : (placeHandoff h s).hpl = s.hpl := rfl
@[simp] theorem placeHandoff_mod (h : HandoffNotice) (s : State) : (placeHandoff h s).mod = s.mod := rfl
@[simp] theorem placeHandoff_crm (h : HandoffNotice) (s : State) : (placeHandoff h s).crm = s.crm := rfl
@[simp] theorem placeHandoff_hoe (h : HandoffNotice) (s : State) : (placeHandoff h s).hoe = s.hoe := rfl
@[simp] theorem placeHandoff_rsq (h : HandoffNotice) (s : State) : (placeHandoff h s).rsq = s.rsq := rfl
@[simp] theorem placeHandoff_lnk (h : HandoffNotice) (s : State) :
    (placeHandoff h s).lnk = { s.lnk with handoffSlot := some h, transmission := s.lnk.renew .handoff } := rfl
@[simp] theorem placeHandoff_suc (h : HandoffNotice) (s : State) : (placeHandoff h s).suc = s.suc := rfl
@[simp] theorem placeHandoff_dgr (h : HandoffNotice) (s : State) : (placeHandoff h s).dgr = s.dgr := rfl

/-! ### `placeDiag` -/

@[simp] theorem placeDiag_pending (a : DiagAnswer) (s : State) : (placeDiag a s).pending = s.pending := rfl
@[simp] theorem placeDiag_freeCount (a : DiagAnswer) (s : State) : (placeDiag a s).freeCount = s.freeCount := rfl
@[simp] theorem placeDiag_agenda (a : DiagAnswer) (s : State) : (placeDiag a s).agenda = s.agenda := rfl
@[simp] theorem placeDiag_now (a : DiagAnswer) (s : State) : (placeDiag a s).now = s.now := rfl
@[simp] theorem placeDiag_stc (a : DiagAnswer) (s : State) : (placeDiag a s).stc = s.stc := rfl
@[simp] theorem placeDiag_alarm (a : DiagAnswer) (s : State) : (placeDiag a s).alarm = s.alarm := rfl
@[simp] theorem placeDiag_ptb (a : DiagAnswer) (s : State) : (placeDiag a s).ptb = s.ptb := rfl
@[simp] theorem placeDiag_glu (a : DiagAnswer) (s : State) : (placeDiag a s).glu = s.glu := rfl
@[simp] theorem placeDiag_hpl (a : DiagAnswer) (s : State) : (placeDiag a s).hpl = s.hpl := rfl
@[simp] theorem placeDiag_mod (a : DiagAnswer) (s : State) : (placeDiag a s).mod = s.mod := rfl
@[simp] theorem placeDiag_crm (a : DiagAnswer) (s : State) : (placeDiag a s).crm = s.crm := rfl
@[simp] theorem placeDiag_hoe (a : DiagAnswer) (s : State) : (placeDiag a s).hoe = s.hoe := rfl
@[simp] theorem placeDiag_rsq (a : DiagAnswer) (s : State) : (placeDiag a s).rsq = s.rsq := rfl
@[simp] theorem placeDiag_lnk (a : DiagAnswer) (s : State) :
    (placeDiag a s).lnk = { s.lnk with diagSlot := some a, transmission := s.lnk.renew .diag } := rfl
@[simp] theorem placeDiag_suc (a : DiagAnswer) (s : State) : (placeDiag a s).suc = s.suc := rfl
@[simp] theorem placeDiag_dgr (a : DiagAnswer) (s : State) : (placeDiag a s).dgr = s.dgr := rfl

/-! ### `setEntry` -/

@[simp] theorem setEntry_pending (n : StationNo) (e : Entry) (s : State) : (setEntry n e s).pending = s.pending := rfl
@[simp] theorem setEntry_freeCount (n : StationNo) (e : Entry) (s : State) :
    (setEntry n e s).freeCount = s.freeCount := rfl
@[simp] theorem setEntry_agenda (n : StationNo) (e : Entry) (s : State) : (setEntry n e s).agenda = s.agenda := rfl
@[simp] theorem setEntry_now (n : StationNo) (e : Entry) (s : State) : (setEntry n e s).now = s.now := rfl
@[simp] theorem setEntry_stc (n : StationNo) (e : Entry) (s : State) : (setEntry n e s).stc = s.stc := rfl
@[simp] theorem setEntry_alarm (n : StationNo) (e : Entry) (s : State) : (setEntry n e s).alarm = s.alarm := rfl
@[simp] theorem setEntry_ptb (n : StationNo) (e : Entry) (s : State) :
    (setEntry n e s).ptb = { s.ptb with entries := s.ptb.entries.set n e } := rfl
@[simp] theorem setEntry_glu (n : StationNo) (e : Entry) (s : State) : (setEntry n e s).glu = s.glu := rfl
@[simp] theorem setEntry_hpl (n : StationNo) (e : Entry) (s : State) : (setEntry n e s).hpl = s.hpl := rfl
@[simp] theorem setEntry_mod (n : StationNo) (e : Entry) (s : State) : (setEntry n e s).mod = s.mod := rfl
@[simp] theorem setEntry_crm (n : StationNo) (e : Entry) (s : State) : (setEntry n e s).crm = s.crm := rfl
@[simp] theorem setEntry_hoe (n : StationNo) (e : Entry) (s : State) : (setEntry n e s).hoe = s.hoe := rfl
@[simp] theorem setEntry_rsq (n : StationNo) (e : Entry) (s : State) : (setEntry n e s).rsq = s.rsq := rfl
@[simp] theorem setEntry_lnk (n : StationNo) (e : Entry) (s : State) : (setEntry n e s).lnk = s.lnk := rfl
@[simp] theorem setEntry_suc (n : StationNo) (e : Entry) (s : State) : (setEntry n e s).suc = s.suc := rfl
@[simp] theorem setEntry_dgr (n : StationNo) (e : Entry) (s : State) : (setEntry n e s).dgr = s.dgr := rfl

/-! ### `refreshValidity` -/

@[simp] theorem refreshValidity_pending (s : State) : (refreshValidity s).pending = s.pending := rfl
@[simp] theorem refreshValidity_freeCount (s : State) : (refreshValidity s).freeCount = s.freeCount := rfl
@[simp] theorem refreshValidity_now (s : State) : (refreshValidity s).now = s.now := rfl
@[simp] theorem refreshValidity_stc (s : State) : (refreshValidity s).stc = s.stc := rfl
@[simp] theorem refreshValidity_alarm (s : State) : (refreshValidity s).alarm = s.alarm := rfl
@[simp] theorem refreshValidity_ptb (s : State) : (refreshValidity s).ptb = s.ptb := rfl
@[simp] theorem refreshValidity_glu (s : State) :
    (refreshValidity s).glu = { s.glu with gradeValid := gradeValidOf s, loadValid := loadValidOf s } := rfl
@[simp] theorem refreshValidity_hpl (s : State) : (refreshValidity s).hpl = s.hpl := rfl
@[simp] theorem refreshValidity_mod (s : State) : (refreshValidity s).mod = s.mod := rfl
@[simp] theorem refreshValidity_crm (s : State) : (refreshValidity s).crm = s.crm := rfl
@[simp] theorem refreshValidity_hoe (s : State) : (refreshValidity s).hoe = s.hoe := rfl
@[simp] theorem refreshValidity_rsq (s : State) : (refreshValidity s).rsq = s.rsq := rfl
@[simp] theorem refreshValidity_lnk (s : State) : (refreshValidity s).lnk = s.lnk := rfl
@[simp] theorem refreshValidity_suc (s : State) : (refreshValidity s).suc = s.suc := rfl
@[simp] theorem refreshValidity_dgr (s : State) : (refreshValidity s).dgr = s.dgr := rfl

/-! ### `refreshTable` -/

@[simp] theorem refreshTable_pending (s : State) : (refreshTable s).pending = s.pending := rfl
@[simp] theorem refreshTable_freeCount (s : State) : (refreshTable s).freeCount = s.freeCount := rfl
@[simp] theorem refreshTable_now (s : State) : (refreshTable s).now = s.now := rfl
@[simp] theorem refreshTable_stc (s : State) : (refreshTable s).stc = s.stc := rfl
@[simp] theorem refreshTable_ptb (s : State) :
    (refreshTable s).ptb = s.ptb.derive (own s) (s.ptb.entries.set (own s) (ownEntry s)) := rfl
@[simp] theorem refreshTable_glu (s : State) : (refreshTable s).glu = s.glu := rfl
@[simp] theorem refreshTable_hpl (s : State) : (refreshTable s).hpl = s.hpl := rfl
@[simp] theorem refreshTable_mod (s : State) : (refreshTable s).mod = s.mod := rfl
@[simp] theorem refreshTable_crm (s : State) : (refreshTable s).crm = s.crm := rfl
@[simp] theorem refreshTable_hoe (s : State) : (refreshTable s).hoe = s.hoe := rfl
@[simp] theorem refreshTable_rsq (s : State) : (refreshTable s).rsq = s.rsq := rfl
@[simp] theorem refreshTable_lnk (s : State) : (refreshTable s).lnk = s.lnk := rfl
@[simp] theorem refreshTable_suc (s : State) : (refreshTable s).suc = s.suc := rfl
@[simp] theorem refreshTable_dgr (s : State) : (refreshTable s).dgr = s.dgr := rfl

/-! ### `sync` -/

@[simp] theorem sync_pending (s : State) : (sync s).pending = s.pending := rfl
@[simp] theorem sync_freeCount (s : State) : (sync s).freeCount = s.freeCount := rfl
@[simp] theorem sync_now (s : State) : (sync s).now = s.now := rfl
@[simp] theorem sync_stc (s : State) : (sync s).stc = s.stc := rfl
@[simp] theorem sync_glu (s : State) :
    (sync s).glu = { s.glu with gradeValid := gradeValidOf s, loadValid := loadValidOf s } := rfl
@[simp] theorem sync_hpl (s : State) : (sync s).hpl = s.hpl := rfl
@[simp] theorem sync_mod (s : State) : (sync s).mod = s.mod := rfl
@[simp] theorem sync_crm (s : State) : (sync s).crm = s.crm := rfl
@[simp] theorem sync_hoe (s : State) : (sync s).hoe = s.hoe := rfl
@[simp] theorem sync_rsq (s : State) : (sync s).rsq = s.rsq := rfl
@[simp] theorem sync_lnk (s : State) : (sync s).lnk = s.lnk := rfl
@[simp] theorem sync_suc (s : State) : (sync s).suc = s.suc := rfl
@[simp] theorem sync_dgr (s : State) : (sync s).dgr = s.dgr := rfl

/-! ### `enterState` -/

@[simp] theorem enterState_pending (t : StationState) (s : State) : (enterState t s).pending = s.pending := rfl
@[simp] theorem enterState_freeCount (t : StationState) (s : State) : (enterState t s).freeCount = s.freeCount := rfl
@[simp] theorem enterState_now (t : StationState) (s : State) : (enterState t s).now = s.now := rfl
@[simp] theorem enterState_stc (t : StationState) (s : State) :
    (enterState t s).stc = s.stc.enter t s.now (s.suc.vehicle.holdLimit * 1000) s.suc.inhibit := rfl
@[simp] theorem enterState_alarm (t : StationState) (s : State) : (enterState t s).alarm = s.alarm := rfl
@[simp] theorem enterState_ptb (t : StationState) (s : State) : (enterState t s).ptb = s.ptb := rfl
@[simp] theorem enterState_glu (t : StationState) (s : State) : (enterState t s).glu = s.glu := rfl
@[simp] theorem enterState_hpl (t : StationState) (s : State) :
    (enterState t s).hpl = s.hpl.enter s.stc.state t s.mod.pMeas := rfl
@[simp] theorem enterState_mod (t : StationState) (s : State) : (enterState t s).mod = s.mod := rfl
@[simp] theorem enterState_crm (t : StationState) (s : State) :
    (enterState t s).crm = s.crm.enter t (isHoldEntry s.stc.state t) s.glu.accAverage := rfl
@[simp] theorem enterState_hoe (t : StationState) (s : State) : (enterState t s).hoe = s.hoe.enter t := rfl
@[simp] theorem enterState_rsq (t : StationState) (s : State) :
    (enterState t s).rsq = s.rsq.enter s.stc.state t (cabNow s).gear.move s.crm.d := rfl
@[simp] theorem enterState_suc (t : StationState) (s : State) : (enterState t s).suc = s.suc := rfl
@[simp] theorem enterState_dgr (t : StationState) (s : State) : (enterState t s).dgr = s.dgr := rfl

/-! ### `countAlarm` -/

@[simp] theorem countAlarm_pending (s : State) : (countAlarm s).pending = s.pending := rfl
@[simp] theorem countAlarm_freeCount (s : State) : (countAlarm s).freeCount = s.freeCount := rfl
@[simp] theorem countAlarm_agenda (s : State) : (countAlarm s).agenda = s.agenda := rfl
@[simp] theorem countAlarm_now (s : State) : (countAlarm s).now = s.now := rfl
@[simp] theorem countAlarm_stc (s : State) : (countAlarm s).stc = s.stc := rfl
@[simp] theorem countAlarm_alarm (s : State) :
    (countAlarm s).alarm = { s.alarm with count := satInc 65535 s.alarm.count } := rfl
@[simp] theorem countAlarm_ptb (s : State) : (countAlarm s).ptb = s.ptb := rfl
@[simp] theorem countAlarm_glu (s : State) : (countAlarm s).glu = s.glu := rfl
@[simp] theorem countAlarm_hpl (s : State) : (countAlarm s).hpl = s.hpl := rfl
@[simp] theorem countAlarm_mod (s : State) : (countAlarm s).mod = s.mod := rfl
@[simp] theorem countAlarm_crm (s : State) : (countAlarm s).crm = s.crm := rfl
@[simp] theorem countAlarm_hoe (s : State) : (countAlarm s).hoe = s.hoe := rfl
@[simp] theorem countAlarm_rsq (s : State) : (countAlarm s).rsq = s.rsq := rfl
@[simp] theorem countAlarm_lnk (s : State) : (countAlarm s).lnk = s.lnk := rfl
@[simp] theorem countAlarm_suc (s : State) : (countAlarm s).suc = s.suc := rfl
@[simp] theorem countAlarm_dgr (s : State) : (countAlarm s).dgr = s.dgr := rfl

/-! ### `countCreep` -/

@[simp] theorem countCreep_pending (s : State) : (countCreep s).pending = s.pending := rfl
@[simp] theorem countCreep_freeCount (s : State) : (countCreep s).freeCount = s.freeCount := rfl
@[simp] theorem countCreep_now (s : State) : (countCreep s).now = s.now := rfl
@[simp] theorem countCreep_stc (s : State) : (countCreep s).stc = s.stc := rfl
@[simp] theorem countCreep_alarm (s : State) : (countCreep s).alarm = s.alarm := rfl
@[simp] theorem countCreep_ptb (s : State) : (countCreep s).ptb = s.ptb := rfl
@[simp] theorem countCreep_glu (s : State) : (countCreep s).glu = s.glu := rfl
@[simp] theorem countCreep_hpl (s : State) : (countCreep s).hpl = s.hpl := rfl
@[simp] theorem countCreep_mod (s : State) : (countCreep s).mod = s.mod := rfl
@[simp] theorem countCreep_crm (s : State) : (countCreep s).crm = s.crm.countEvent := rfl
@[simp] theorem countCreep_hoe (s : State) : (countCreep s).hoe = s.hoe := rfl
@[simp] theorem countCreep_rsq (s : State) : (countCreep s).rsq = s.rsq := rfl
@[simp] theorem countCreep_lnk (s : State) : (countCreep s).lnk = s.lnk := rfl
@[simp] theorem countCreep_suc (s : State) : (countCreep s).suc = s.suc := rfl
@[simp] theorem countCreep_dgr (s : State) : (countCreep s).dgr = s.dgr := rfl

/-! ### `reportRollaway` -/

@[simp] theorem reportRollaway_pending (r : AlarmReason) (s : State) : (reportRollaway r s).pending = s.pending := rfl
@[simp] theorem reportRollaway_freeCount (r : AlarmReason) (s : State) :
    (reportRollaway r s).freeCount = s.freeCount := rfl
@[simp] theorem reportRollaway_now (r : AlarmReason) (s : State) : (reportRollaway r s).now = s.now := rfl
@[simp] theorem reportRollaway_stc (r : AlarmReason) (s : State) : (reportRollaway r s).stc = s.stc := rfl
@[simp] theorem reportRollaway_alarm (r : AlarmReason) (s : State) : (reportRollaway r s).alarm = s.alarm := rfl
@[simp] theorem reportRollaway_ptb (r : AlarmReason) (s : State) : (reportRollaway r s).ptb = s.ptb := rfl
@[simp] theorem reportRollaway_glu (r : AlarmReason) (s : State) : (reportRollaway r s).glu = s.glu := rfl
@[simp] theorem reportRollaway_hpl (r : AlarmReason) (s : State) : (reportRollaway r s).hpl = s.hpl := rfl
@[simp] theorem reportRollaway_mod (r : AlarmReason) (s : State) : (reportRollaway r s).mod = s.mod := rfl
@[simp] theorem reportRollaway_crm (r : AlarmReason) (s : State) : (reportRollaway r s).crm = s.crm := rfl
@[simp] theorem reportRollaway_hoe (r : AlarmReason) (s : State) : (reportRollaway r s).hoe = s.hoe := rfl
@[simp] theorem reportRollaway_rsq (r : AlarmReason) (s : State) : (reportRollaway r s).rsq = s.rsq := rfl
@[simp] theorem reportRollaway_lnk (r : AlarmReason) (s : State) : (reportRollaway r s).lnk = s.lnk := rfl
@[simp] theorem reportRollaway_suc (r : AlarmReason) (s : State) : (reportRollaway r s).suc = s.suc := rfl
@[simp] theorem reportRollaway_dgr (r : AlarmReason) (s : State) : (reportRollaway r s).dgr = s.dgr := rfl

/-! ### `askPlan` -/

@[simp] theorem askPlan_pending (s : State) : (askPlan s).pending = s.pending := rfl
@[simp] theorem askPlan_freeCount (s : State) : (askPlan s).freeCount = s.freeCount := rfl
@[simp] theorem askPlan_agenda (s : State) : (askPlan s).agenda = { s.agenda with plan := true } := rfl
@[simp] theorem askPlan_now (s : State) : (askPlan s).now = s.now := rfl
@[simp] theorem askPlan_stc (s : State) : (askPlan s).stc = s.stc := rfl
@[simp] theorem askPlan_alarm (s : State) : (askPlan s).alarm = s.alarm := rfl
@[simp] theorem askPlan_ptb (s : State) : (askPlan s).ptb = s.ptb := rfl
@[simp] theorem askPlan_glu (s : State) : (askPlan s).glu = s.glu := rfl
@[simp] theorem askPlan_hpl (s : State) : (askPlan s).hpl = s.hpl := rfl
@[simp] theorem askPlan_mod (s : State) : (askPlan s).mod = s.mod := rfl
@[simp] theorem askPlan_crm (s : State) : (askPlan s).crm = s.crm := rfl
@[simp] theorem askPlan_hoe (s : State) : (askPlan s).hoe = s.hoe := rfl
@[simp] theorem askPlan_rsq (s : State) : (askPlan s).rsq = s.rsq := rfl
@[simp] theorem askPlan_lnk (s : State) : (askPlan s).lnk = s.lnk := rfl
@[simp] theorem askPlan_suc (s : State) : (askPlan s).suc = s.suc := rfl
@[simp] theorem askPlan_dgr (s : State) : (askPlan s).dgr = s.dgr := rfl

/-! ### `askExits` -/

@[simp] theorem askExits_pending (s : State) : (askExits s).pending = s.pending := rfl
@[simp] theorem askExits_freeCount (s : State) : (askExits s).freeCount = s.freeCount := rfl
@[simp] theorem askExits_agenda (s : State) : (askExits s).agenda = { s.agenda with exits := true } := rfl
@[simp] theorem askExits_now (s : State) : (askExits s).now = s.now := rfl
@[simp] theorem askExits_stc (s : State) : (askExits s).stc = s.stc := rfl
@[simp] theorem askExits_alarm (s : State) : (askExits s).alarm = s.alarm := rfl
@[simp] theorem askExits_ptb (s : State) : (askExits s).ptb = s.ptb := rfl
@[simp] theorem askExits_glu (s : State) : (askExits s).glu = s.glu := rfl
@[simp] theorem askExits_hpl (s : State) : (askExits s).hpl = s.hpl := rfl
@[simp] theorem askExits_mod (s : State) : (askExits s).mod = s.mod := rfl
@[simp] theorem askExits_crm (s : State) : (askExits s).crm = s.crm := rfl
@[simp] theorem askExits_hoe (s : State) : (askExits s).hoe = s.hoe := rfl
@[simp] theorem askExits_rsq (s : State) : (askExits s).rsq = s.rsq := rfl
@[simp] theorem askExits_lnk (s : State) : (askExits s).lnk = s.lnk := rfl
@[simp] theorem askExits_suc (s : State) : (askExits s).suc = s.suc := rfl
@[simp] theorem askExits_dgr (s : State) : (askExits s).dgr = s.dgr := rfl

/-! ### `levels` -/

@[simp] theorem levels_pending (s : State) : (levels s).pending = s.pending := rfl
@[simp] theorem levels_freeCount (s : State) : (levels s).freeCount = s.freeCount := rfl
@[simp] theorem levels_agenda (s : State) : (levels s).agenda = {} := rfl
@[simp] theorem levels_now (s : State) : (levels s).now = s.now := rfl
@[simp] theorem levels_stc (s : State) : (levels s).stc = { s.stc with faultLine := faultLineOf s } := rfl
@[simp] theorem levels_alarm (s : State) : (levels s).alarm = s.alarm := rfl
@[simp] theorem levels_ptb (s : State) : (levels s).ptb = s.ptb := rfl
@[simp] theorem levels_glu (s : State) : (levels s).glu = s.glu := rfl
@[simp] theorem levels_hpl (s : State) : (levels s).hpl = { s.hpl with limitTimer := limitTimerOf s } := rfl
@[simp] theorem levels_mod (s : State) : (levels s).mod = s.mod := rfl
@[simp] theorem levels_crm (s : State) : (levels s).crm = s.crm := rfl
@[simp] theorem levels_hoe (s : State) : (levels s).hoe = s.hoe := rfl
@[simp] theorem levels_rsq (s : State) :
    (levels s).rsq = { s.rsq with driveOffTimer := driveOffTimerOf s, lapseTimer := lapseTimerOf s } := rfl
@[simp] theorem levels_lnk (s : State) : (levels s).lnk = s.lnk := rfl
@[simp] theorem levels_suc (s : State) : (levels s).suc = s.suc := rfl
@[simp] theorem levels_dgr (s : State) : (levels s).dgr = s.dgr := rfl

/-! ### `countUnclaimed` -/

@[simp] theorem countUnclaimed_pending (s : State) : (countUnclaimed s).pending = s.pending := rfl
@[simp] theorem countUnclaimed_freeCount (s : State) : (countUnclaimed s).freeCount = s.freeCount := rfl
@[simp] theorem countUnclaimed_agenda (s : State) : (countUnclaimed s).agenda = s.agenda := rfl
@[simp] theorem countUnclaimed_now (s : State) : (countUnclaimed s).now = s.now := rfl
@[simp] theorem countUnclaimed_stc (s : State) : (countUnclaimed s).stc = s.stc := rfl
@[simp] theorem countUnclaimed_alarm (s : State) : (countUnclaimed s).alarm = s.alarm := rfl
@[simp] theorem countUnclaimed_ptb (s : State) : (countUnclaimed s).ptb = s.ptb := rfl
@[simp] theorem countUnclaimed_glu (s : State) : (countUnclaimed s).glu = s.glu := rfl
@[simp] theorem countUnclaimed_hpl (s : State) : (countUnclaimed s).hpl = s.hpl := rfl
@[simp] theorem countUnclaimed_mod (s : State) : (countUnclaimed s).mod = s.mod := rfl
@[simp] theorem countUnclaimed_crm (s : State) : (countUnclaimed s).crm = s.crm := rfl
@[simp] theorem countUnclaimed_hoe (s : State) : (countUnclaimed s).hoe = s.hoe := rfl
@[simp] theorem countUnclaimed_rsq (s : State) : (countUnclaimed s).rsq = s.rsq := rfl
@[simp] theorem countUnclaimed_lnk (s : State) :
    (countUnclaimed s).lnk = { s.lnk with unclaimed := satInc 65535 s.lnk.unclaimed } := rfl
@[simp] theorem countUnclaimed_suc (s : State) : (countUnclaimed s).suc = s.suc := rfl
@[simp] theorem countUnclaimed_dgr (s : State) : (countUnclaimed s).dgr = s.dgr := rfl

/-! ### `spendFree` -/

@[simp] theorem spendFree_pending (s : State) : (spendFree s).pending = s.pending := rfl
@[simp] theorem spendFree_freeCount (s : State) : (spendFree s).freeCount = s.freeCount + 1 := rfl
@[simp] theorem spendFree_agenda (s : State) : (spendFree s).agenda = s.agenda := rfl
@[simp] theorem spendFree_now (s : State) : (spendFree s).now = s.now := rfl
@[simp] theorem spendFree_stc (s : State) : (spendFree s).stc = s.stc := rfl
@[simp] theorem spendFree_alarm (s : State) : (spendFree s).alarm = s.alarm := rfl
@[simp] theorem spendFree_ptb (s : State) : (spendFree s).ptb = s.ptb := rfl
@[simp] theorem spendFree_glu (s : State) : (spendFree s).glu = s.glu := rfl
@[simp] theorem spendFree_hpl (s : State) : (spendFree s).hpl = s.hpl := rfl
@[simp] theorem spendFree_mod (s : State) : (spendFree s).mod = s.mod := rfl
@[simp] theorem spendFree_crm (s : State) : (spendFree s).crm = s.crm := rfl
@[simp] theorem spendFree_hoe (s : State) : (spendFree s).hoe = s.hoe := rfl
@[simp] theorem spendFree_rsq (s : State) : (spendFree s).rsq = s.rsq := rfl
@[simp] theorem spendFree_lnk (s : State) : (spendFree s).lnk = s.lnk := rfl
@[simp] theorem spendFree_suc (s : State) : (spendFree s).suc = s.suc := rfl
@[simp] theorem spendFree_dgr (s : State) : (spendFree s).dgr = s.dgr := rfl

/-! ### The straps from their pins, and the words from their bytes -/

@[simp] theorem sampleStraps_spring (p : StrapPins) : (sampleStraps p).spring = p.spring := rfl

@[simp] theorem wordsOfBytes_nil : wordsOfBytes [] = [] := rfl
@[simp] theorem wordsOfBytes_one (b : Byte) : wordsOfBytes [b] = [] := rfl
@[simp] theorem wordsOfBytes_cons (hi lo : Byte) (rest : List Byte) :
    wordsOfBytes (hi :: lo :: rest) = (hi ++ lo) :: wordsOfBytes rest := rfl

/-- The words read are half as many as the bytes. -/
theorem wordsOfBytes_length : ∀ bytes : List Byte, (wordsOfBytes bytes).length = bytes.length / 2
  | [] => rfl
  | [_] => by simp
  | _ :: _ :: rest => by
    have h := wordsOfBytes_length rest
    simp only [wordsOfBytes_cons, List.length_cons]
    omega

end Sys2Proof.Machine
end

