-- ==== Sys2Proof/Laws/Settle.lean ====
section
/-! SUPPORT. What settling an event leaves alone, said once for every operation that takes part in it (`steady`), the
induction principle of settling (`settle_induction`), and the lemmas that follow: a settled state, the sticky flags, FAILED. -/

namespace Sys2Proof.Machine

-- One theorem at a time: hundreds of small ones at once take more threads than a build may have.
set_option Elab.async false

/-! ### What MOD reads of its sensors -/

/-- What MOD has from its sensors. -/
structure Sensed where
  pMeas : Nat
  pSup : Nat
  lastSupplyRaw : Option (BitVec 12)

/-- What the record of MOD has from its sensors. -/
def Mod.sensed (m : Mod) : Sensed := { pMeas := m.pMeas, pSup := m.pSup, lastSupplyRaw := m.lastSupplyRaw }

@[simp] theorem Mod.sensed_commandValves (m : Mod) : m.commandValves.sensed = m.sensed := rfl
@[simp] theorem Mod.sensed_beginStep (st : Step) (m : Mod) : (m.beginStep st).sensed = m.sensed := rfl

@[simp] theorem Mod.sensed_startNext (m : Mod) : m.startNext.sensed = m.sensed := by
  unfold Mod.startNext; split <;> rfl

@[simp] theorem Mod.sensed_joinTo (j : Join) (m : Mod) : (m.joinTo j).mod.sensed = m.sensed := by
  unfold Mod.joinTo; split <;> rfl

@[simp] theorem Mod.sensed_placePlanner (st : Step) (m : Mod) : (m.placePlanner st).mod.sensed = m.sensed := by
  unfold Mod.placePlanner
  split
  · rfl
  · split <;> rfl

@[simp] theorem Mod.sensed_placeBehind (l : List Step) (m : Mod) : (m.placeBehind l).mod.sensed = m.sensed := by
  unfold Mod.placeBehind
  split
  · exact Mod.sensed_startNext _
  · rfl

@[simp] theorem Mod.sensed_append (p : Nat) (x : Source) (l : List Step) (m : Mod) :
    (m.append p x l).mod.sensed = m.sensed := by
  unfold Mod.append
  split
  · split <;> simp
  · rfl

@[simp] theorem Mod.sensed_moveOn (f : InFlight) (m : Mod) : (m.moveOn f).sensed = m.sensed := by
  unfold Mod.moveOn
  exact Mod.sensed_startNext _

@[simp] theorem Mod.sensed_evaluate (m : Mod) : m.evaluate.mod.sensed = m.sensed := by
  unfold Mod.evaluate
  split
  · rfl
  · dsimp only
    split
    · split
      · rfl
      · exact Mod.sensed_moveOn _ _
    · split
      · exact Mod.sensed_moveOn _ _
      · rfl

@[simp] theorem Mod.sensed_faultStep (m : Mod) : m.faultStep.mod.sensed = m.sensed := by
  unfold Mod.faultStep; split <;> rfl

@[simp] theorem Mod.sensed_orderPark (b : Bool) (a : Option AxleParams) (t : Word32) (m : Mod) :
    (m.orderPark b a t).sensed = m.sensed := by
  unfold Mod.orderPark
  split
  · rfl
  · split <;> rfl

/-! ### What settling leaves alone -/

/-- The parts of the state that no report changes: the station time, the model's queue and count, SUC and DGR whole, the peers'
entries, the cab and drum records, the windows and averages of GLU, the pressures, the standstill flag, and the link but for
its slots. The parts that a report may write are blanked. -/
structure Steady where
  pending : List Instr
  freeCount : Nat
  now : Word32
  suc : Suc
  dgr : Dgr
  peers : Table Entry
  cab : CabRecord
  drum : DrumRecord
  lastDuplicate : Option Word32
  glu : Glu
  sensed : Sensed
  standstill : Bool
  standstillTimer : Timer
  lnk : Lnk
  rank : Option Nat

/-- The steady parts of a state. -/
def steady (s : State) : Steady :=
  { pending := s.pending, freeCount := s.freeCount, now := s.now, suc := s.suc, dgr := s.dgr
    peers := s.ptb.entries.set s.suc.sid {}
    cab := s.ptb.cab, drum := s.ptb.drum, lastDuplicate := s.ptb.lastDuplicate
    glu := { s.glu with gradeValid := false, loadValid := false, plausibilityTimer := none }
    sensed := s.mod.sensed, standstill := s.crm.standstill, standstillTimer := s.crm.standstillTimer
    lnk := { s.lnk with alarmSlot := none, handoffSlot := none, statusPending := false, transmission := none }
    rank := s.rsq.rank }

/-! #### Ops, Flags and the peer table -/

@[simp] theorem steady_putFault (f : Flag) (b : Bool) (s : State) : steady (putFault f b s) = steady s := rfl
@[simp] theorem steady_raiseFault (f : Flag) (s : State) : steady (raiseFault f s) = steady s := rfl
@[simp] theorem steady_callStatus (s : State) : steady (callStatus s) = steady s := rfl
@[simp] theorem steady_placeAlarm (a : AlarmNotice) (s : State) : steady (placeAlarm a s) = steady s := rfl
@[simp] theorem steady_placeHandoff (h : HandoffNotice) (s : State) : steady (placeHandoff h s) = steady s := rfl

@[simp] theorem steady_callStatusIf (b : Bool) (s : State) : steady (callStatusIf b s) = steady s := by
  cases b <;> rfl

@[simp] theorem steady_refreshValidity (s : State) : steady (refreshValidity s) = steady s := rfl

@[simp] theorem steady_refreshTable (s : State) : steady (refreshTable s) = steady s := by
  simp only [steady, refreshTable, Ptb.derive, own, Table.set_set]

@[simp] theorem steady_sync (s : State) : steady (sync s) = steady s := by simp [sync]

/-! #### MOD -/

theorem steady_takeModResult (r : ModResult) (s : State) (h : r.mod.sensed = s.mod.sensed) :
    steady (takeModResult r s) = steady s := by
  unfold takeModResult
  dsimp only
  split <;> split <;> simp [steady, raiseFault, putFault, h]

@[simp] theorem steady_joinTo (j : Join) (s : State) : steady (joinTo j s) = steady s := by
  unfold joinTo
  exact steady_takeModResult _ _ (by simp)

@[simp] theorem steady_appendSteps (x : Source) (l : List Step) (s : State) : steady (appendSteps x l s) = steady s :=
  steady_takeModResult _ _ (by simp)

@[simp] theorem steady_faultStep (s : State) : steady (takeModResult s.mod.faultStep s) = steady s :=
  steady_takeModResult _ _ (by simp)

@[simp] theorem steady_orderPark (b : Bool) (s : State) : steady (orderPark b s) = steady s := by
  simp [steady, orderPark]

/-! #### GLU and HPL -/

@[simp] theorem steady_comparePlausibility (s : State) : steady (comparePlausibility s) = steady s := rfl

@[simp] theorem steady_currentConditions (s : State) : steady (currentConditions s) = steady s := by
  unfold currentConditions
  dsimp only
  split <;> split <;> rfl

@[simp] theorem steady_compute (s : State) : steady (compute s) = steady s := by
  simp only [compute, steady_callStatusIf, steady_currentConditions]
  rfl

@[simp] theorem steady_setLimited (b : Nat) (s : State) : steady (setLimited b s) = steady s := by
  simp only [setLimited, steady_callStatusIf]; rfl

@[simp] theorem steady_clearLimited (s : State) : steady (clearLimited s) = steady s := by
  simp only [clearLimited, steady_callStatusIf]; rfl

@[simp] theorem steady_limitedByEnd (e : StepEnd) (s : State) : steady (limitedByEnd e s) = steady s := by
  unfold limitedByEnd
  split
  · simp
  · split <;> simp
  · rfl
  · rfl

@[simp] theorem steady_submitTarget (s : State) : steady (submitTarget s) = steady s := by
  simp only [submitTarget, steady_appendSteps]; rfl

@[simp] theorem steady_submissionDecision (b : Bool) (s : State) : steady (submissionDecision b s) = steady s := by
  unfold submissionDecision
  split
  · split
    · simp
    · rfl
  · rfl

/-! #### CRM -/

@[simp] theorem steady_reportRollaway (r : AlarmReason) (s : State) : steady (reportRollaway r s) = steady s := rfl

@[simp] theorem steady_rollawayTest (s : State) : steady (rollawayTest s) = steady s := by
  unfold rollawayTest; split <;> rfl

@[simp] theorem steady_formDownhill (s : State) : steady (formDownhill s) = steady s := by
  unfold formDownhill
  dsimp only
  split
  · rfl
  · simp only [steady_rollawayTest]; rfl

@[simp] theorem steady_countCreep (s : State) : steady (countCreep s) = steady s := rfl

@[simp] theorem Crm.standstill_enter (t : StationState) (h : Bool) (a : Option Int) (c : Crm) :
    (c.enter t h a).standstill = c.standstill := by
  unfold Crm.enter; cases h <;> dsimp only <;> (repeat' split) <;> rfl

@[simp] theorem Crm.standstillTimer_enter (t : StationState) (h : Bool) (a : Option Int) (c : Crm) :
    (c.enter t h a).standstillTimer = c.standstillTimer := by
  unfold Crm.enter; cases h <;> dsimp only <;> (repeat' split) <;> rfl

/-! #### HOE and RSQ -/

@[simp] theorem steady_placeReply (n : StationNo) (t : Bool) (a : Answer) (s : State) :
    steady (placeReply n t a s) = steady s := rfl

@[simp] theorem steady_reformAnswer (s : State) (n : StationNo) : steady (reformAnswer s n) = steady s := by
  unfold reformAnswer
  split
  · split <;> simp
  · rfl

theorem steady_foldl_reformAnswer (l : List StationNo) (s : State) : steady (l.foldl reformAnswer s) = steady s := by
  induction l generalizing s with
  | nil => rfl
  | cons n l ih => simp [ih]

@[simp] theorem steady_reformAnswers (s : State) : steady (reformAnswers s) = steady s :=
  steady_foldl_reformAnswer _ s

@[simp] theorem steady_setPlanPending (s : State) : steady (setPlanPending s) = steady s := by
  unfold setPlanPending
  split
  · rfl
  · exact steady_reformAnswers _

@[simp] theorem Rsq.rank_enter (f t : StationState) (g : Option Direction) (d : Int) (r : Rsq) :
    (r.enter f t g d).rank = r.rank := by
  unfold Rsq.enter; dsimp only; (repeat' split) <;> rfl

/-! #### STC -/

@[simp] theorem steady_enterState (t : StationState) (s : State) : steady (enterState t s) = steady s := by
  simp [steady, enterState]

@[simp] theorem steady_countAlarm (s : State) : steady (countAlarm s) = steady s := rfl

@[simp] theorem steady_enterAlarm (c : AlarmCause) (s : State) : steady (enterAlarm c s) = steady s := by
  simp only [enterAlarm, steady_enterState]; rfl

@[simp] theorem steady_takeAlarmCause (c : AlarmCause) (s : State) : steady (takeAlarmCause c s) = steady s := by
  unfold takeAlarmCause; split <;> simp

@[simp] theorem steady_takeRollaway (r : Rollaway) (s : State) : steady (takeRollaway r s) = steady s := by
  unfold takeRollaway; split <;> simp

@[simp] theorem steady_returnToOrigin (s : State) : steady (returnToOrigin s) = steady s := by
  unfold returnToOrigin; dsimp only; split <;> simp

@[simp] theorem steady_startExchange (s : State) : steady (startExchange s) = steady s := by
  simp only [startExchange, steady_placeHandoff, steady_enterState]; rfl

@[simp] theorem steady_cancelExchange (p : LeaverPhase) (s : State) : steady (cancelExchange p s) = steady s := by
  simp only [cancelExchange, steady_returnToOrigin, steady_placeHandoff]; rfl

@[simp] theorem steady_failExchange (s : State) : steady (failExchange s) = steady s := by
  simp only [failExchange, steady_cancelExchange, steady_raiseFault]; rfl

@[simp] theorem steady_yieldExchange (s : State) : steady (yieldExchange s) = steady s := by
  simp only [yieldExchange, steady_cancelExchange]; rfl

@[simp] theorem steady_applyMove (m : Move) (s : State) : steady (applyMove m s) = steady s := by
  cases m <;> simp [applyMove]

@[simp] theorem steady_followLift (s : State) : steady (followLift s) = steady s := by
  unfold followLift; split <;> rfl

@[simp] theorem steady_chain (n : Nat) (s : State) : steady (chain n s) = steady s := by
  induction n generalizing s with
  | zero => rfl
  | succ n ih => unfold chain; split <;> simp [ih]

@[simp] theorem steady_parkForState (s : State) : steady (parkForState s) = steady s := by
  unfold parkForState; split <;> simp

@[simp] theorem steady_joinForState (s : State) : steady (joinForState s) = steady s := by simp [joinForState]

@[simp] theorem steady_alarmStep (s : State) : steady (alarmStep s) = steady s := by simp [alarmStep]

@[simp] theorem steady_outputs (s : State) : steady (outputs s) = steady s := by
  unfold outputs; dsimp only; split <;> simp

@[simp] theorem steady_afterMove (s : State) : steady (afterMove s) = steady s := by simp [afterMove]

@[simp] theorem steady_moveTo (t : StationState) (s : State) : steady (moveTo t s) = steady s := by simp [moveTo]

@[simp] theorem steady_tendHandoff (s : State) : steady (tendHandoff s) = steady s := rfl

@[simp] theorem steady_deferAsk (s : State) : steady (deferAsk s) = steady s := by
  unfold deferAsk; split <;> rfl

@[simp] theorem steady_markUnpark (b : Bool) (s : State) : steady (markUnpark b s) = steady s := rfl

@[simp] theorem steady_testUnpark (s : State) : steady (testUnpark s) = steady s := by
  unfold testUnpark; dsimp only; (repeat' split) <;> rfl

@[simp] theorem steady_testService (s : State) : steady (testService s) = steady s := by
  unfold testService; split <;> simp

@[simp] theorem steady_testExits (s : State) : steady (testExits s) = steady s := by
  unfold testExits; dsimp only; split <;> simp

/-! #### The reports -/

@[simp] theorem steady_planEvent (b : Bool) (s : State) : steady (planEvent b s) = steady s := by
  unfold planEvent
  rw [steady_submissionDecision]
  show steady (formDownhill _) = _
  rw [steady_formDownhill]
  show steady (compute _) = _
  simp

@[simp] theorem steady_takeUnparkEnd (e : StepEnd) (s : State) : steady (takeUnparkEnd e s) = steady s := by
  unfold takeUnparkEnd
  split
  · split
    · simp
    · rfl
    · rfl
    · rfl
  · rfl

@[simp] theorem steady_countRampStep (e : StepEnd) (s : State) : steady (countRampStep e s) = steady s := rfl

@[simp] theorem steady_takeEnd (e : StepEnd) (s : State) : steady (takeEnd e s) = steady s := by
  unfold takeEnd
  rw [steady_takeUnparkEnd]
  exact (steady_countRampStep e (limitedByEnd e s)).trans (steady_limitedByEnd e s)

@[simp] theorem steady_endHandoffRamp (s : State) : steady (endHandoffRamp s) = steady s := by
  unfold endHandoffRamp
  dsimp only
  split
  · rw [steady_moveTo]; rfl
  · rw [steady_afterMove]
    exact steady_enterState .free { s with hoe := { s.hoe with phase := .idle, replies := Table.fill none } }

@[simp] theorem steady_rehold (s : State) : steady (rehold s) = steady s := by
  unfold rehold; dsimp only; split
  · rfl
  · rw [steady_enterState]; rfl

@[simp] theorem steady_completeRelease (s : State) : steady (completeRelease s) = steady s := by
  unfold completeRelease
  simp only [steady_afterMove]
  split
  · rw [steady_rehold, steady_followLift]
    exact steady_enterState .free s
  · rw [steady_followLift]
    exact steady_enterState .free s

@[simp] theorem steady_testRamp (s : State) : steady (testRamp s) = steady s := by
  unfold testRamp; (repeat' split) <;> simp

@[simp] theorem steady_abortRelease (w : AbortReason) (s : State) : steady (abortRelease w s) = steady s := by
  simp only [abortRelease, steady_moveTo, steady_countCreep]; rfl

@[simp] theorem steady_testAbort (s : State) : steady (testAbort s) = steady s := by
  unfold testAbort; (repeat' split) <;> simp

@[simp] theorem steady_takeAbortEvent (s : State) : steady (takeAbortEvent s) = steady s := by
  unfold takeAbortEvent; (repeat' split) <;> simp

@[simp] theorem steady_takeTurn (s : State) : steady (takeTurn s) = steady s := by
  simp only [takeTurn, steady_appendSteps]; rfl

@[simp] theorem steady_testTurn (s : State) : steady (testTurn s) = steady s := by
  unfold testTurn; split <;> simp

@[simp] theorem steady_succeed (s : State) : steady (succeed s) = steady s := by
  simp only [succeed, steady_appendSteps, steady_joinTo]; rfl

@[simp] theorem steady_testSuccess (s : State) : steady (testSuccess s) = steady s := by
  unfold testSuccess; split <;> simp

@[simp] theorem steady_testYield (m : StationNo) (s : State) : steady (testYield m s) = steady s := by
  unfold testYield; split <;> simp

@[simp] theorem steady_takePeerAlarm (n : StationNo) (s : State) : steady (takePeerAlarm n s) = steady s := by
  unfold takePeerAlarm; dsimp only; split <;> simp

@[simp] theorem steady_takeOwnRollaway (r : Rollaway) (s : State) : steady (takeOwnRollaway r s) = steady s := by
  unfold takeOwnRollaway; dsimp only; split <;> simp

/-! ### The reports of an event, one by one -/

/-- The thirteen reports: what `nextReport` can answer, each with what the state and its agenda must show. -/
inductive Report (s : State) : State → Prop
  | stepEnd (e : StepEnd) (rest : List StepEnd) (h : s.agenda.ends = e :: rest) :
      Report s (takeEnd e { s with agenda := { s.agenda with ends := rest } })
  | rollaway (r : Rollaway) (rest : List Rollaway) (h : s.agenda.rollaways = r :: rest) :
      Report s (takeOwnRollaway r { s with agenda := { s.agenda with rollaways := rest } })
  | peerAlarm (n : StationNo) (rest : List StationNo) (h : s.agenda.peerAlarms = n :: rest) :
      Report s (takePeerAlarm n { s with agenda := { s.agenda with peerAlarms := rest } })
  | abortEvent (h : s.agenda.abortEvent = true) :
      Report s (takeAbortEvent { s with agenda := { s.agenda with abortEvent := false } })
  | yield (m : StationNo) (rest : List StationNo) (h : s.agenda.yields = m :: rest) :
      Report s (testYield m { s with agenda := { s.agenda with yields := rest } })
  | exits (h : s.agenda.exits = true) : Report s (testExits { s with agenda := { s.agenda with exits := false } })
  | plan (h : s.agenda.plan = true) :
      Report s (planEvent s.agenda.force { s with agenda := { s.agenda with plan := false, force := false } })
  | abortTest (h : s.agenda.abortTest = true) :
      Report s (testAbort { s with agenda := { s.agenda with abortTest := false } })
  | turn (h : s.agenda.turn = true) : Report s (testTurn { s with agenda := { s.agenda with turn := false } })
  | ramp (h : s.agenda.ramp = true) : Report s (testRamp { s with agenda := { s.agenda with ramp := false } })
  | success (h : s.agenda.success = true) :
      Report s (testSuccess { s with agenda := { s.agenda with success := false } })
  | answers (h : s.agenda.answers = true) :
      Report s (reformAnswers { s with agenda := { s.agenda with answers := false } })

/-- `nextReport` answers one of the reports. -/
theorem report_of_nextReport {s t : State} (h : nextReport s = some t) : Report s t := by
  unfold nextReport at h
  dsimp only at h
  split at h
  · injection h with h; subst h; exact .stepEnd _ _ ‹_›
  · injection h with h; subst h; exact .rollaway _ _ ‹_›
  · injection h with h; subst h; exact .peerAlarm _ _ ‹_›
  · split at h
    · injection h with h; subst h; exact .abortEvent ‹_›
    · split at h
      · injection h with h; subst h; exact .yield _ _ ‹_›
      · (repeat' split at h) <;> first
          | (injection h with h; subst h; first
              | exact .exits ‹_› | exact .plan ‹_› | exact .abortTest ‹_› | exact .turn ‹_› | exact .ramp ‹_›
              | exact .success ‹_› | exact .answers ‹_›)
          | cases h

/-- With nothing on the agenda there is no report. -/
theorem nextReport_none {s : State} (h : s.agenda = {}) : nextReport s = none := by
  unfold nextReport; simp [h]

/-- Draining keeps what bringing up to date and every report keep. -/
theorem drain_induction {P : State → Prop} (hsync : ∀ s, P s → P (sync s))
    (hreport : ∀ s t, P s → Report s t → P t) (n : Nat) {s : State} (h : P s) : P (drain n s) := by
  induction n generalizing s with
  | zero => exact hsync s h
  | succ n ih =>
    unfold drain
    split
    · exact ih (hreport _ _ (hsync s h) (report_of_nextReport ‹_›))
    · exact hsync s h

/-- Settling keeps what bringing up to date, every report and `levels` keep. -/
theorem settle_induction {P : State → Prop} (hsync : ∀ s, P s → P (sync s))
    (hreport : ∀ s t, P s → Report s t → P t) (hlevels : ∀ s, P s → P (levels s)) {s : State} (h : P s) :
    P (settle s) :=
  hlevels _ (drain_induction hsync hreport reportLimit h)

/-- No report changes a steady part. -/
theorem steady_of_report {s t : State} (h : Report s t) : steady t = steady s := by
  cases h <;> simp <;> rfl

/-- Settling changes no steady part. -/
@[simp] theorem steady_settle (s : State) : steady (settle s) = steady s :=
  settle_induction (P := fun t => steady t = steady s) (fun t h => by simp [h])
    (fun t u h r => (steady_of_report r).trans h) (fun t h => by rw [← h]; rfl) rfl

/-! #### The steady parts, one by one -/

theorem settle_pending (s : State) : (settle s).pending = s.pending := congrArg Steady.pending (steady_settle s)
theorem settle_freeCount (s : State) : (settle s).freeCount = s.freeCount := congrArg Steady.freeCount (steady_settle s)
theorem settle_now (s : State) : (settle s).now = s.now := congrArg Steady.now (steady_settle s)
theorem settle_suc (s : State) : (settle s).suc = s.suc := congrArg Steady.suc (steady_settle s)
theorem settle_dgr (s : State) : (settle s).dgr = s.dgr := congrArg Steady.dgr (steady_settle s)
theorem settle_cab (s : State) : (settle s).ptb.cab = s.ptb.cab := congrArg Steady.cab (steady_settle s)
theorem settle_drum (s : State) : (settle s).ptb.drum = s.ptb.drum := congrArg Steady.drum (steady_settle s)
theorem settle_lastDuplicate (s : State) : (settle s).ptb.lastDuplicate = s.ptb.lastDuplicate :=
  congrArg Steady.lastDuplicate (steady_settle s)
theorem settle_pMeas (s : State) : (settle s).mod.pMeas = s.mod.pMeas :=
  congrArg (fun x => x.sensed.pMeas) (steady_settle s)
theorem settle_pSup (s : State) : (settle s).mod.pSup = s.mod.pSup :=
  congrArg (fun x => x.sensed.pSup) (steady_settle s)
theorem settle_lastSupplyRaw (s : State) : (settle s).mod.lastSupplyRaw = s.mod.lastSupplyRaw :=
  congrArg (fun x => x.sensed.lastSupplyRaw) (steady_settle s)
theorem settle_accWindow (s : State) : (settle s).glu.accWindow = s.glu.accWindow :=
  congrArg (fun x => x.glu.accWindow) (steady_settle s)
theorem settle_accAverage (s : State) : (settle s).glu.accAverage = s.glu.accAverage :=
  congrArg (fun x => x.glu.accAverage) (steady_settle s)
theorem settle_ownGrade (s : State) : (settle s).glu.ownGrade = s.glu.ownGrade :=
  congrArg (fun x => x.glu.ownGrade) (steady_settle s)
theorem settle_accAnswering (s : State) : (settle s).glu.accAnswering = s.glu.accAnswering :=
  congrArg (fun x => x.glu.accAnswering) (steady_settle s)
theorem settle_plausibilityFailed (s : State) : (settle s).glu.plausibilityFailed = s.glu.plausibilityFailed :=
  congrArg (fun x => x.glu.plausibilityFailed) (steady_settle s)
theorem settle_loadWindow (s : State) : (settle s).glu.loadWindow = s.glu.loadWindow :=
  congrArg (fun x => x.glu.loadWindow) (steady_settle s)
theorem settle_loadAverage (s : State) : (settle s).glu.loadAverage = s.glu.loadAverage :=
  congrArg (fun x => x.glu.loadAverage) (steady_settle s)
theorem settle_lastLoadRaw (s : State) : (settle s).glu.lastLoadRaw = s.glu.lastLoadRaw :=
  congrArg (fun x => x.glu.lastLoadRaw) (steady_settle s)
theorem settle_standstill (s : State) : (settle s).crm.standstill = s.crm.standstill :=
  congrArg Steady.standstill (steady_settle s)
theorem settle_standstillTimer (s : State) : (settle s).crm.standstillTimer = s.crm.standstillTimer :=
  congrArg Steady.standstillTimer (steady_settle s)
theorem settle_diagSlot (s : State) : (settle s).lnk.diagSlot = s.lnk.diagSlot :=
  congrArg (fun x => x.lnk.diagSlot) (steady_settle s)
theorem settle_failures (s : State) : (settle s).lnk.failures = s.lnk.failures :=
  congrArg (fun x => x.lnk.failures) (steady_settle s)
theorem settle_link (s : State) : (settle s).lnk.link = s.lnk.link := congrArg (fun x => x.lnk.link) (steady_settle s)
theorem settle_receiveTimer (s : State) : (settle s).lnk.receiveTimer = s.lnk.receiveTimer :=
  congrArg (fun x => x.lnk.receiveTimer) (steady_settle s)
theorem settle_recoveryAck (s : State) : (settle s).lnk.recoveryAck = s.lnk.recoveryAck :=
  congrArg (fun x => x.lnk.recoveryAck) (steady_settle s)
theorem settle_recoveryFrames (s : State) : (settle s).lnk.recoveryFrames = s.lnk.recoveryFrames :=
  congrArg (fun x => x.lnk.recoveryFrames) (steady_settle s)
theorem settle_announceTimer (s : State) : (settle s).lnk.announceTimer = s.lnk.announceTimer :=
  congrArg (fun x => x.lnk.announceTimer) (steady_settle s)
theorem settle_validFrames (s : State) : (settle s).lnk.validFrames = s.lnk.validFrames :=
  congrArg (fun x => x.lnk.validFrames) (steady_settle s)
theorem settle_checkFailures (s : State) : (settle s).lnk.checkFailures = s.lnk.checkFailures :=
  congrArg (fun x => x.lnk.checkFailures) (steady_settle s)
theorem settle_unclaimed (s : State) : (settle s).lnk.unclaimed = s.lnk.unclaimed :=
  congrArg (fun x => x.lnk.unclaimed) (steady_settle s)
theorem settle_rank (s : State) : (settle s).rsq.rank = s.rsq.rank := congrArg Steady.rank (steady_settle s)

/-- A peer's entry is as it was. -/
theorem settle_entry (s : State) {n : StationNo} (h : n ≠ s.suc.sid) :
    (settle s).ptb.entries.get n = s.ptb.entries.get n := by
  have h1 := congrArg (fun x => x.peers.get n) (steady_settle s)
  simpa [steady, settle_suc, Table.get_set_of_ne _ _ h] using h1

/-! ### A settled state -/

theorem timerWhile_idem (b : Bool) (n : Nat) (t : Timer) : timerWhile b n (timerWhile b n t) = timerWhile b n t := by
  cases b <;> cases t <;> rfl

/-- Forming the derived values again from the same entries changes nothing. -/
theorem Ptb.derive_idem (self : StationNo) (t : Table Entry) (p : Ptb) :
    (p.derive self t).derive self t = p.derive self t := by
  have h : ∀ (b r : Bool), (r && !(b && r)) = (r && !b) := by decide
  have h2 : ∀ (b r : Bool), (b && r && r) = (b && r) := by decide
  simp only [Ptb.derive, h, h2, timerWhile_idem]

theorem keptAcknowledged_get (t : Table Entry) (a : Table Bool) (n : StationNo) :
    (keptAcknowledged t a).get n = (a.get n && (t.get n).showsAlarm) := by
  fin_cases n <;> rfl

theorem keptAcknowledged_idem (t : Table Entry) (a : Table Bool) :
    keptAcknowledged t (keptAcknowledged t a) = keptAcknowledged t a := by
  apply Table.ext_get
  intro n
  simp only [keptAcknowledged_get, Bool.and_assoc, Bool.and_self]

@[simp] theorem planValuesDiffer_self (p : Ptb) : planValuesDiffer p p = false := by simp [planValuesDiffer]
@[simp] theorem poolEntryChanged_self (e : Entry) : poolEntryChanged e e = false := by simp [poolEntryChanged]
@[simp] theorem exitValuesDiffer_self (p : Ptb) : exitValuesDiffer p p = false := by simp [exitValuesDiffer]

theorem refreshValidity_idem (s : State) : refreshValidity (refreshValidity s) = refreshValidity s := by
  have h1 : gradeValidOf (refreshValidity s) = gradeValidOf s := rfl
  have h2 : loadValidOf (refreshValidity s) = loadValidOf s := rfl
  conv_lhs => rw [refreshValidity]
  simp [h1, h2]
  simp [refreshValidity]

/-- The own entry as PTB has rewritten it (R25). -/
theorem entryOf_own_refreshTable (s : State) : entryOf (refreshTable s) (own s) = ownEntry s :=
  Table.get_set_self _ _ _

theorem refreshTable_idem (s : State) : refreshTable (refreshTable s) = refreshTable s := by
  have h1 : ownEntry (refreshTable s) = ownEntry s := rfl
  have h2 : own (refreshTable s) = own s := rfl
  have h3 : (refreshTable s).ptb.entries = s.ptb.entries.set (own s) (ownEntry s) := rfl
  conv_lhs => rw [refreshTable]
  simp only [h1, h2, h3, Table.set_set, entryOf_own_refreshTable, poolEntryChanged_self]
  simp only [refreshTable_ptb, Ptb.derive_idem, planValuesDiffer_self, exitValuesDiffer_self, Bool.or_false]
  simp only [refreshTable, keptAcknowledged_idem]

theorem sync_idem (s : State) : sync (sync s) = sync s := by
  have h : refreshValidity (sync s) = sync s := by
    have h1 : gradeValidOf (sync s) = gradeValidOf s := rfl
    have h2 : loadValidOf (sync s) = loadValidOf s := rfl
    conv_lhs => rw [refreshValidity]
    simp only [h1, h2]
    simp [sync, refreshTable, refreshValidity]
  conv_lhs => rw [sync, h]
  exact refreshTable_idem _

theorem levels_idem (s : State) : levels (levels s) = levels s := by
  have h1 : limitTimerOf (levels s) = limitTimerOf s := timerWhile_idem _ _ _
  have h2 : driveOffTimerOf (levels s) = driveOffTimerOf s := timerWhile_idem _ _ _
  have h3 : lapseTimerOf (levels s) = lapseTimerOf s := timerWhile_idem _ _ _
  have h4 : faultLineOf (levels s) = faultLineOf s := rfl
  conv_lhs => rw [levels]
  simp only [h1, h2, h3, h4]
  rfl

/-- What a synced state shows. -/
theorem refresh_of_sync {s : State} (h : sync s = s) : refreshValidity s = s ∧ refreshTable s = s := by
  have h1 : refreshValidity s = s := by
    have h2 := refreshValidity_idem s
    have hg : gradeValidOf s = s.glu.gradeValid := congrArg (fun x => x.glu.gradeValid) h
    have hl : loadValidOf s = s.glu.loadValid := congrArg (fun x => x.glu.loadValid) h
    rw [refreshValidity]
    simp [hg, hl]
  exact ⟨h1, by rw [sync, h1] at h; exact h⟩

theorem sync_levels {s : State} (h : sync s = s) : sync (levels s) = levels s := by
  obtain ⟨hv, ht⟩ := refresh_of_sync h
  have hg : gradeValidOf (levels s) = s.glu.gradeValid := congrArg (fun x => x.glu.gradeValid) hv
  have hl : loadValidOf (levels s) = s.glu.loadValid := congrArg (fun x => x.glu.loadValid) hv
  have h1 : refreshValidity (levels s) = levels s := by
    rw [refreshValidity]
    simp [hg, hl]
    rfl
  rw [sync, h1]
  have hp : s.ptb.derive (own s) (s.ptb.entries.set (own s) (ownEntry s)) = s.ptb := congrArg State.ptb ht
  have ha : keptAcknowledged s.ptb.entries s.alarm.ackPeers = s.alarm.ackPeers := by
    have := congrArg (fun x => x.alarm.ackPeers) ht
    simpa [refreshTable, hp] using this
  have ho : own (levels s) = own s := rfl
  have he : ownEntry (levels s) = ownEntry s := rfl
  have hw : entryOf (levels s) (own s) = ownEntry s := by
    rw [← entryOf_own_refreshTable s, ht]
    rfl
  rw [refreshTable]
  simp only [ho, he, hw, levels_ptb, hp, planValuesDiffer_self, exitValuesDiffer_self, poolEntryChanged_self, levels_alarm,
    ha]
  rfl

theorem drain_synced (n : Nat) (s : State) : sync (drain n s) = drain n s := by
  induction n generalizing s with
  | zero => exact sync_idem s
  | succ n ih =>
    unfold drain
    split
    · exact ih _
    · exact sync_idem s

/-- Settling gives a settled state, from any state. -/
theorem settle_settled (s : State) : Settled (settle s) :=
  ⟨rfl, sync_levels (drain_synced _ _), levels_idem _⟩

/-- Settling a settled state changes nothing. -/
theorem settle_of_settled {s : State} (h : Settled s) : settle s = s := by
  obtain ⟨ha, hs, hl⟩ := h
  have hd : drain reportLimit s = s := by
    show drain (63 + 1) s = s
    unfold drain
    rw [hs, nextReport_none ha]
  rw [settle, hd, hl]

/-- Settling a state with an empty agenda brings it up to date and no more. -/
theorem settle_of_quiet {s : State} (h : (sync s).agenda = {}) : settle s = levels (sync s) := by
  have hd : drain reportLimit s = sync s := by
    show drain (63 + 1) s = sync s
    unfold drain
    rw [nextReport_none h]
  rw [settle, hd]

/-! ### A computation repeated

HPL's own results are announced in the own entry, so that a computation that changes them calls for another (R42, R53). It finds
the same plan and submits nothing more. -/

theorem fallbackGrade_again (g : Int) : fallbackGrade (fallbackGrade g) = fallbackGrade g := by
  unfold fallbackGrade; split <;> simp

theorem fullPlan_lastG (s : State) (a : AxleParams) : (fullPlan s a).lastG = gradeUsed s := by
  simp only [fullPlan, springStage, achievedStage, targetStage, shareStage, capacityStage, demandStage]
  split <;> split <;> rfl

theorem gradeUsed_again (s : State) (p : Plan) (h : p.lastG = gradeUsed s) :
    gradeUsed { s with hpl := p } = gradeUsed s := by
  show (if isolatedMode s then (if s.glu.gradeValid then s.glu.ownGrade else none).getD (fallbackGrade p.lastG)
    else (medianGrade (allGrades s)).getD (fallbackGrade p.lastG)) = gradeUsed s
  rw [h]
  unfold gradeUsed
  split
  · cases (if s.glu.gradeValid then s.glu.ownGrade else none) <;> simp [fallbackGrade_again]
  · cases medianGrade (allGrades s) <;> simp [fallbackGrade_again]

/-- Of the plan record the stages read only what they are given, the last used G apart. -/
theorem demandStage_hpl (s : State) (a : AxleParams) (p q : Plan) (h : p.lastG = gradeUsed s) :
    demandStage { s with hpl := p } a q = demandStage s a q := by
  unfold demandStage
  rw [gradeUsed_again s p h]
  rfl

/-- A computation repeated on the same inputs gives the same plan (R53). -/
theorem fullPlan_again (s : State) (a : AxleParams) : fullPlan { s with hpl := fullPlan s a } a = fullPlan s a := by
  have h : fullPlan { s with hpl := fullPlan s a } a
      = springStage s a (achievedStage s a (targetStage s a (shareStage s (capacityStage s a
          (demandStage { s with hpl := fullPlan s a } a (fullPlan s a)))))) := rfl
  rw [h, demandStage_hpl s a _ _ (fullPlan_lastG s a)]
  unfold fullPlan springStage shareStage
  split <;> split <;> rfl

/-- A computation that does not submit, repeated with the same target, leaves the decrease wait as it is (R66). -/
theorem waitAfter_again (p : Plan) : waitAfter { p with decreaseWait := waitAfter p } = waitAfter p := by
  have ht (w : Option DecreaseWait) : targetFalls { p with decreaseWait := w } = targetFalls p := rfl
  rcases hw : p.decreaseWait with _ | w <;> cases hf : targetFalls p <;> simp only [waitAfter, ht, hw, hf] <;> simp
  by_cases h : w.lowest + 10 ≤ p.pT <;> simp [h]
  omega

theorem takeModResult_hpl (r : ModResult) (s : State) : (takeModResult r s).hpl = s.hpl := by
  unfold takeModResult; dsimp only; split <;> split <;> rfl

theorem takeModResult_state (r : ModResult) (s : State) : (takeModResult r s).stc.state = s.stc.state := by
  unfold takeModResult; dsimp only; split <;> split <;> rfl

theorem submitTarget_hpl (s : State) :
    (submitTarget s).hpl = { s.hpl with lastSubmitted := s.hpl.pT, decreaseWait := none } := takeModResult_hpl _ _

theorem submitTarget_state (s : State) : (submitTarget s).stc.state = s.stc.state := takeModResult_state _ _

/-- The submission decision of a computation repeated with the same target submits nothing more (R66). -/
theorem submissionDecision_again (b : Bool) (s : State) :
    submissionDecision false (submissionDecision b s) = submissionDecision b s := by
  have keep (t : State) (hr : targetRises t.hpl = false) (hw : waitAfter t.hpl = t.hpl.decreaseWait) :
      submissionDecision false t = t := by
    unfold submissionDecision
    split
    · simp [hr, hw]
    · rfl
  by_cases h : (s.stc.state = .holding || s.stc.state = .secured) = true
  · by_cases hr : (b || targetRises s.hpl) = true
    · rw [show submissionDecision b s = submitTarget s by simp only [submissionDecision, h, hr, if_true]]
      apply keep <;> simp [submitTarget_hpl, targetRises, targetFalls, waitAfter]
    · rw [show submissionDecision b s = { s with hpl := { s.hpl with decreaseWait := waitAfter s.hpl } } by
        simp only [submissionDecision, h, hr, if_true, Bool.false_eq_true, if_false]]
      exact keep _ ((by simpa using hr : b = false ∧ targetRises s.hpl = false).2) (waitAfter_again _)
  · have e (b : Bool) : submissionDecision b s = s := by simp only [submissionDecision, h, Bool.false_eq_true, if_false]
    rw [e, e]

end Sys2Proof.Machine
end

