-- ==== Sys2Proof/Tests/Slice0.lean ====
section
/-! SUPPORT. Tests of the model: ill-formed commands refused, the worked numbers of the Description, and for each statement with
hypotheses a state and operands that meet them. -/

namespace Sys2Proof.Tests

-- One theorem at a time: hundreds of small ones at once take more threads than a build may have.
set_option Elab.async false

open Sys2Proof.Machine

/-! ### WellFormed: an ill-formed command for each check -/

theorem test_refuses_short_complete_read :
    (Instr.parameterMemoryReadEnd [1, 2] .complete).wellFormed = false := by decide
theorem test_refuses_whole_read_cut_short :
    (Instr.parameterMemoryReadEnd (List.replicate 26 0) .noAnswer).wellFormed = false := by decide
theorem test_refuses_long_read :
    (Instr.parameterMemoryReadEnd (List.replicate 27 0) .timeLimit).wellFormed = false := by decide
theorem test_refuses_long_cab : (Instr.cabNotice 8 (List.replicate 13 0)).wellFormed = false := by decide
theorem test_refuses_long_drum : (Instr.drumNotice 9 (List.replicate 13 0)).wellFormed = false := by decide
theorem test_refuses_long_status : (Instr.statusNotice 1 (List.replicate 13 0)).wellFormed = false := by decide
theorem test_refuses_long_alarm : (Instr.alarmNotice 1 (List.replicate 13 0)).wellFormed = false := by decide
theorem test_refuses_long_config : (Instr.configNotice 8 (List.replicate 13 0)).wellFormed = false := by decide
theorem test_refuses_long_foreign : (Instr.foreignOwnOriginFrame 2 (List.replicate 13 0)).wellFormed = false := by decide
theorem test_refuses_long_request : (Instr.handoffRequest 1 (List.replicate 12 0)).wellFormed = false := by decide
theorem test_refuses_long_reply : (Instr.handoffReply 1 (List.replicate 12 0)).wellFormed = false := by decide
theorem test_refuses_long_cancel : (Instr.handoffCancel 1 (List.replicate 12 0)).wellFormed = false := by decide
theorem test_refuses_known_opcode :
    (Instr.diagUnknownOpcode { origin := 14, target := 0, item := 0, part := 0, value := 0 } 4).wellFormed = false := by
  decide
theorem test_refuses_claimed_frame :
    (Instr.unclaimedValidFrame { cls := 2, origin := 8, payload := [] }).wellFormed = false := by decide
theorem test_admits_full_frame : (Instr.cabNotice 8 (List.replicate 12 0)).wellFormed = true := by decide

/-! ### The worked case of Chapter 3 (paras 3.10.2 to 3.10.5) -/

/-- The demand of para 3.10.2: M 3320, Ge 255, K 88. -/
theorem test_required_force : requiredForce 3320 255 88 = 1165 ∧ nominalForce 3320 255 = 847 := by decide

/-- With K 104 of para 5.7.3. -/
theorem test_required_force_after_creep : requiredForce 3320 255 104 = 1376 := by decide

/-- The grades of Table 3-4. -/
theorem test_median_of_four : medianGrade [248, 251, 262, 255] = some 255 := by decide

/-- Of two opposite middle grades the positive one is used (R47). -/
theorem test_median_of_opposites : medianGrade [-40, 40] = some 40 ∧ medianGrade [-41, 40] = some (-41) := by decide

/-- Table 3-5: the four shares of R 1165 in a pool capacity of 1256. -/
theorem test_shares : [320, 240, 352, 344].map (shareOf true 1165 1256) = [297, 223, 327, 320] := by decide

/-- Table 3-5: the four target pressures. -/
theorem test_targets :
    [demandPressure 297 0 40, demandPressure 223 0 30, demandPressure 327 0 55, demandPressure 320 0 55]
      = [743, 744, 595, 582] := by decide

/-- Para 3.10.3.2: the achieved forces at those pressures. -/
theorem test_achieved :
    [achievedForce 328 0 40 743, achievedForce 304 0 30 744, achievedForce 352 0 55 595, achievedForce 344 0 55 582]
      = [297, 223, 327, 320] := by decide

/-- R62: a demand above 0 asks for 50 kPa at least. -/
theorem test_floor : demandPressure 1 0 55 = 50 ∧ demandPressure 300 300 55 = 0 := by decide

/-! ### Chapters 4 and 7: steps -/

/-- Para 4.9.1: the first profile step from 595 kPa. -/
theorem test_profile : (releaseProfile 595 2000).map Step.target = [297, 0] ∧ timeAllowed 297 2000 595 = 649 := by decide

/-- Para 4.9.1: at 80 ms the reference stands at 435. -/
theorem test_reference :
    movedReference { step := { target := 297, rate := 2000, source := .release }, start := 595, intermediate := 455,
                     allowed := 649, retry := 0, inBand := none, highest := 595, elapsed := 80 } = 435 := by decide

/-- Table 4-2 under PLANNER and ALARM, 15 kPa about 800. -/
theorem test_valves :
    valveCommands .planner (some 800) 784 = { apply := true, release := false }
      ∧ valveCommands .planner (some 800) 785 = valvesClosed
      ∧ valveCommands .planner (some 800) 816 = { apply := false, release := true }
      ∧ valveCommands .alarm (some 800) 900 = valvesClosed
      ∧ valveCommands .idleVent none 0 = { apply := false, release := true } := by decide

/-- R69: the pressure of a raw value at both ends of the range. -/
theorem test_pressures : pressureOfRaw 40 = 10 ∧ pressureOfRaw 4055 = 1088 := by decide

/-! ### Chapter 5: distance -/

/-- Table 5-3: minus two pulses of 32 mm, and the tie taken from the left. -/
theorem test_distance :
    axleCount (-1) (-1) = -1 ∧ axleCount (-1) (-2) = -2
      ∧ countAfter .reverse (-32767) = -32767 ∧ countAfter .forward (-32767) = -32766 := by decide

/-- Table 5-4: 224 mm downhill in REVERSE. -/
theorem test_downhill : downhillOf (some 255) 20 = .reverse ∧ downhillTravel .reverse 0 (-224) = 224 := by decide

/-! ### Chapters 9 and 10: frames, notices, parameters -/

/-- R146: a frame of twelve payload bytes takes 131 bits, the start bit and the seven last ones included. -/
theorem test_longest_frame :
    ({ cls := 3, origin := 2, payload := List.replicate 12 0 } : Frame).bits.length
      = 1 + 3 + 4 + 4 + 8 * 12 + 16 + 1 + 6 := by decide +kernel

/-- A CAB frame reads back as the command of its row, and one bit turned gives an invalid frame (R147). -/
theorem test_cab_frame :
    commandOfBits 2 ({ cls := 2, origin := 8, payload := [0x30, 0x50, 0, 0, 0, 0, 0, 0] } : Frame).bits
        = .cabNotice 8 [0x30, 0x50, 0, 0, 0, 0, 0, 0]
      ∧ commandOfBits 2 ((({ cls := 2, origin := 8, payload := [0x30] } : Frame).bits).set 13 true)
        = .invalidFrame .badCheck := by decide +kernel

/-- Table 9-5: pedal, driver and ignition, gear REVERSE, surface WET, 3000, lift bit 1. -/
theorem test_cab_fields :
    readCab [0x70, 0x90, 0x0B, 0xB8, 0x02, 0, 0, 0]
      = { park := false, pedal := true, driver := true, ignition := true, gear := .reverse, driveForce := 3000,
          liftBits := 2, ack := false, surface := .wet } := by decide

/-- Table 10-3: fields out of range are clamped (R162). -/
theorem test_clamped_config :
    (readConfig [200, 8, 40, 0, 200, 30, 20, 120, 0, 100, 0, 100]).clamped.k0 = 128
      ∧ (readConfig [200, 8, 40, 0, 200, 30, 20, 5, 0, 100, 0, 100]).clamped.holdLimit = 10 := by decide

/-- Words 0 to 11 of an axle, with their sum as word 12 (R160). -/
def goodWords : List Word16 := [55, 800, 300, 300, 500, 100, 3200, 256, 0, 1000, 3300, 0, 9811]

/-- The bytes of those words, each with its most significant byte first (R160). -/
def goodBytes : List Byte := (goodWords.map wordBytes).flatten

/-- R160: the first byte of a word is its most significant; a last byte alone makes no word. -/
theorem test_byte_order : wordsOfBytes [0x0C, 0x80, 0x7F] = [3200] ∧ wordsOfBytes goodBytes = goodWords := by
  decide +kernel

/-- R159: SID0 and ROLE0 are the least significant bits. -/
theorem test_strap_pins :
    sampleStraps { sid0 := true, sid1 := false, sid2 := false, role0 := false, role1 := false, role2 := true, spring := true }
      = { sid := 1, role := 4, spring := true } := by decide

theorem test_good_words : pmemValid goodWords .complete = true ∧ pmemValid (goodWords.set 0 56) .complete = false
    ∧ pmemValid goodWords .timeLimit = false := by decide +kernel

/-! ### Witnesses: for each statement with hypotheses, a state and operands that meet them -/

/-- A state with its own entry, its derived values and the timers that follow a condition brought into agreement. -/
def made (s : State) : State := levels (sync s)

theorem made_settled (s : State) : Settled (made s) := ⟨rfl, sync_levels (sync_idem s), levels_idem _⟩

/-- The axle of the words above: B 55, P_max 800, S 300. -/
def axle : AxleParams := readAxle goodWords

/-- Station 2, of role LIFT with springs, out of the start-up and in a state with the park valve and the join of it. -/
def inState (st : StationState) : State :=
  let s := State.afterReset { sid := 2, role := 3, spring := true }
  { s with
    stc := { s.stc with state := st }
    suc := { s.suc with pmem := .valid, readTimer := none, words := goodWords, axle := some axle, configWait := .ended,
                        configTimer := none }
    mod := { s.mod with join := joinOf .idle st, parkCmd := (parkOf none st).getD false, pSup := 850, pMeas := 400 }
    crm := { s.crm with watch := st.monitored }
    hpl := { s.hpl with planLock := decide (st = .releasing), pTop := 800 } }

/-- The entry of a station put into a state. -/
def withEntry (n : StationNo) (e : Entry) (s : State) : State := setEntry n e s

/-- A FRESH peer in a state, with its standstill flag set. -/
def peer (st : StationState) : Entry :=
  { presence := .fresh, state := st, flags := { standstill := true }, deadline := some 70, sinceStatus := 0 }

/-- A step in flight. -/
def flying (st : Step) (s : State) : State := { s with mod := { s.mod with inFlight := some (freshRun st 100 0 120) } }

/-- A diagnostic request of the service tool at origin 14 to station 2. -/
def asks (item part : Byte) (value : Word32) : DiagRequest :=
  { origin := 14, target := 2, item := item, part := part, value := value }

theorem test_witness_IdleTakesDueOrTime :
    (State.reset.pending = [] ∧ dueCommands State.reset = [])
      ∧ (let s := { State.reset with crm := { State.reset.crm with standstillTimer := some 0 } }
         s.pending = [] ∧ dueCommands s ≠ []) := by decide +kernel

theorem test_witness_FrameReadsBack : ([] : List Byte).length ≤ payloadLimit
    ∧ (List.replicate 12 (255 : Byte)).length ≤ payloadLimit := by decide

theorem test_witness_NoticesReadBack :
    (∃ e : Entry, e.load = 4000 ∧ e.creep = 7 ∧ e.capacity = 65535 ∧ e.share = 65535 ∧ e.achieved = 65535
      ∧ e.grade = some (-600) ∧ (∀ g, e.grade = some g → -600 ≤ g ∧ g ≤ 600))
      ∧ (∃ c : CabValues, c.driveForce = 65535 ∧ c.driveForce < 65536)
      ∧ (∃ a : AlarmNotice, a.travel = 65535 ∧ a.grade = -32768 ∧ a.travel < 65536 ∧ -32768 ≤ a.grade
          ∧ a.grade < 32768) :=
  ⟨⟨{ load := 4000, creep := 7, capacity := 65535, share := 65535, achieved := 65535, grade := some (-600) }, rfl, rfl,
      rfl, rfl, rfl, rfl, by intro g h; cases h; decide⟩,
    ⟨{ driveForce := 65535 }, rfl, by decide⟩,
    ⟨{ reason := .slip, travel := 65535, grade := -32768 }, rfl, rfl, by decide, by decide, by decide⟩⟩

/-- The state after reset with one command waiting. -/
def waiting (c : Instr) : State := { State.reset with pending := [c] }

/-- For StepKeepsSettled, StepKeepsValves, StepKeepsModulator, StepKeepsCounts, StepKeepsPlan and StepKeepsRecords. -/
theorem test_witness_invariants :
    Settled (waiting .standstillTimerExpiry) ∧ ParkRight (waiting .standstillTimerExpiry)
      ∧ JoinRight (waiting .standstillTimerExpiry) ∧ RecordsRight (waiting .standstillTimerExpiry)
      ∧ QueueRight (waiting .standstillTimerExpiry).mod ∧ SpringsRight (waiting .standstillTimerExpiry)
      ∧ CountsRight (waiting .standstillTimerExpiry) ∧ PlanRight (waiting .standstillTimerExpiry)
      ∧ ∃ t, step (waiting .standstillTimerExpiry) = .next t := by
  refine ⟨?_, ?_, ?_, ?_, ?_, ?_, ?_, ?_, ⟨_, rfl⟩⟩
  · unfold Settled; decide +kernel
  · unfold ParkRight; decide +kernel
  · unfold JoinRight; decide +kernel
  · unfold RecordsRight; decide +kernel
  · refine ⟨by decide, by decide, ?_, by decide⟩; intro f h; cases h
  · unfold SpringsRight; decide +kernel
  · unfold CountsRight; decide +kernel
  · refine ⟨?_, by unfold VehicleParams.inRanges; decide, by decide, by decide, by decide, by decide, by decide, by decide, by decide, by decide, ?_⟩
    · intro a h; cases h
    · intro f h; cases h

theorem test_witness_FailedOnlyLeftByReset :
    (inState .failed).stc.state = .failed ∧ notReset (.inhibitSample true) = true := by decide

theorem test_witness_FaultyStartStaysOffline :
    (let s := State.afterReset { sid := 0, role := 5, spring := false }
     s.stc.state = .offline ∧ 5 ≤ s.suc.role.val ∧ notReset .configWaitExpiry = true) := by decide

theorem test_witness_StickyFlagsStay :
    Flag.sticky .supplySensor = true ∧ hasFault (raiseFault .supplySensor State.reset) .supplySensor = true
      ∧ notReset (.diagClear (asks 26 0 0)) = true
      ∧ (∀ q, Instr.diagClear (asks 26 0 0) = .diagClear q → ∀ i, allFlags[i]? = some Flag.supplySensor →
          q.item.toNat ≠ 24 + i) := by
  refine ⟨rfl, rfl, rfl, ?_⟩
  intro q h i hi
  cases h
  show (26 : Nat) ≠ 24 + i
  intro e
  have : i = 2 := by omega
  subst this
  exact absurd hi (by decide)

theorem test_witness_SetupHolds :
    (let s := (inState .free)
     let t := { s with suc := { s.suc with lock := true, accepted := some [1] } }
     notReset (.configNotice 8 []) = true ∧ t.suc.pmem ≠ .reading ∧ t.suc.lock = true ∧ t.suc.configWait = .ended) := by
  decide

theorem test_witness_EachRecordHasItsWriters :
    notReset (.loadSample 5) = true ∧ writes (.loadSample 5) .cursor = false
      ∧ writes (.cabNotice 8 []) .peerEntries = false := by decide

/-- For FaultLineFollows and DerivedValuesFollow. -/
theorem test_witness_settled : Settled (made (inState .alarm)) ∧ (made (inState .alarm)).stc.faultLine = true :=
  ⟨made_settled _, by decide +kernel⟩

theorem test_witness_ResetLeaves :
    (let p : StrapPins := { sid0 := false, sid1 := true, sid2 := true, role0 := true, role1 := false, role2 := true,
                            spring := true }
     (6 : Fin 8).val = bit p.sid0 + 2 * bit p.sid1 + 4 * bit p.sid2
       ∧ (5 : Fin 8).val = bit p.role0 + 2 * bit p.role1 + 4 * bit p.role2) := by decide

theorem test_witness_MedianIsAGrade :
    [(-600 : Int), 600] ≠ []
      ∧ [(40 : Int), -41, 7].Perm ([-41] ++ 7 :: [40]) ∧ [(-41 : Int)].length = [(40 : Int)].length
      ∧ (∀ x ∈ [(-41 : Int)], x ≤ 7) ∧ (∀ x ∈ [(40 : Int)], 7 ≤ x)
      ∧ [(40 : Int), -40].Perm ([] ++ -40 :: 40 :: []) ∧ (-40 : Int) ≤ 40 := by decide

theorem test_witness_SharesCoverTheRemainder : 1255 < [320, 240, 352, 344].sum := by decide

theorem test_witness_TargetCarriesTheShare : axle.inRanges = true
    ∧ hasFault (inState .holding) .supplySensor = false
    ∧ hasFault (raiseFault .supplySensor (inState .holding)) .supplySensor = true
    ∧ (fullPlan (made (inState .holding)) axle).clamped = false
    ∧ (let u := made (inState .holding)
       isolatedFlags u = false ∧ u.suc.axle = some axle ∧ own u ∈ u.ptb.flexibleSet ∧ own u ∈ u.ptb.pool
         ∧ u.stc.state.sharing = true ∧ (fullPlan u axle).poolCapacity ≠ 0) := by decide +kernel

theorem test_witness_IsolatedComputation :
    isolatedFlags (raiseFault .linkLost (inState .secured)) = true
      ∧ (raiseFault .linkLost (inState .secured)).stc.state.sharing = true := by decide

theorem test_witness_RampStaysInItsRange :
    (let f := { freshRun { target := 297, rate := 2000, source := .release } 595 0 595 with elapsed := 149 }
     distance f.step.target f.start ≤ f.step.rate * f.elapsed / 1000 ∧ f.intermediate ≠ f.step.target)
    ∧ Join.alarm.source.isSome = true
    ∧ (let st : Step := { target := 300, rate := 0, source := .planner }
       let m (e r : Nat) (b : Option Nat) : Mod :=
         { join := .planner, pMeas := 310, queue := [st], inFlight := some { freshRun st 0 r 0 with elapsed := e, inBand := b } }
       (m 800 1 none).inFlight.isSome = true ∧ (m 800 1 none).evaluate.ended = none
         ∧ (m 800 2 none).evaluate.ended ≠ none ∧ (m 799 0 (some 60)).evaluate.ended ≠ none
         ∧ ({ m 799 0 (some 60) with queue := [] } : Mod).evaluate.ended ≠ none
         ∧ (m 799 0 (some 59)).evaluate.ended = none ∧ ({} : Mod).inFlight = none) := by decide

theorem test_witness_ParameterMemoryRead :
    goodWords = wordsOfBytes goodBytes ∧ 12 < goodBytes.length / 2
    ∧ (let s := State.reset
     s.suc.pmem = .reading ∧ pmemValid goodWords .complete = true ∧ pmemValid goodWords .noAnswer = false
       ∧ s.stc.state = .offline ∧ s.suc.configWait = .running ∧ s.mod.parkCmd = false
       ∧ ¬ (readAxle goodWords).springApply ≤ s.now.toNat)
    ∧ (let s := { State.reset with now := 300 }
       s.suc.pmem = .reading ∧ s.stc.state = .offline ∧ s.suc.configWait = .running ∧ s.mod.parkCmd = false
         ∧ (readAxle goodWords).springApply ≤ s.now.toNat)
    ∧ (inState .free).suc.pmem ≠ .reading := by decide +kernel

theorem test_witness_ConfigWaitEnds :
    (let s := inState .offline
     let u := made { s with suc := { s.suc with configWait := .running, configTimer := some 0 } }
     Settled u ∧ u.suc.configWait = .running ∧ u.suc.configTimer.isSome = true ∧ u.stc.state = .offline
       ∧ u.suc.role.val < 5 ∧ u.suc.pmem = .valid)
    ∧ (State.reset.suc.configWait = .running ∧ State.reset.suc.configTimer.isSome = true
        ∧ State.reset.stc.state = .offline ∧ State.reset.suc.pmem ≠ .valid)
    ∧ (inState .free).suc.configWait = .ended :=
  ⟨⟨made_settled _, by decide +kernel⟩, by decide, by decide⟩

theorem test_witness_InhibitLevel :
    (let s := inState .free
     let u := made { s with suc := { s.suc with inhibitLatest := true }, crm := { s.crm with d := 6400 } }
     Settled u ∧ Calm u ∧ u.stc.state = .free ∧ u.suc.inhibit = false ∧ u.suc.inhibitLatest = true
       ∧ u.crm.d ≠ u.crm.rollBase)
    ∧ (let s := inState .service
       let u := made { s with suc := { s.suc with inhibit := true } }
       Settled u ∧ Calm u ∧ u.stc.state = .service ∧ u.suc.inhibit = true ∧ u.suc.inhibitLatest = false) :=
  ⟨⟨made_settled _, by unfold Calm; decide +kernel, by decide +kernel⟩,
    ⟨made_settled _, by unfold Calm; decide +kernel, by decide +kernel⟩⟩

theorem test_witness_SensorWindows :
    (let s := inState .standstill
     let u := { s with crm := { s.crm with standstill := true } }
     u.crm.standstill = true ∧ u.suc.axle = some axle)
    ∧ (State.reset.crm.standstill = false ∧ State.reset.suc.axle = none)
    ∧ ((1 : BitVec 12).toNat ≠ 0 ∧ (4094 : BitVec 12).toNat ≠ 4095 ∧ (inState .free).suc.axle = some axle)
    ∧ ((0 : BitVec 12).toNat = 0 ∧ (4095 : BitVec 12).toNat = 4095) := by decide +kernel

theorem test_witness_RollawayRaisesAlarm :
    (let s := inState .secured
     let u := made { s with
       crm := { s.crm with standstill := true, slipReference := some 100, slipAccumulated := 99 }
       glu := { s.glu with accWindow := List.replicate 7 141 } }
     Settled u ∧ failureRaised u = false ∧ u.stc.state = .secured ∧ u.crm.watch = true ∧ u.crm.standstill = true
       ∧ u.suc.axle = some axle
       ∧ accAverageOf (enterWindow 8 (clampInt (-2000) 2000 141 - axle.accOffset) u.glu.accWindow) = some 141
       ∧ u.crm.slipReference = some 100 ∧ 40 < ((141 : Int) - 100).natAbs ∧ u.crm.slipAccumulated = 99)
    ∧ (let s := inState .leaving
       let u := made { s with crm := { s.crm with left := -6, right := -6, axle := -6, d := -192, downhill := .reverse } }
       Settled u ∧ failureRaised u = false ∧ u.stc.state = .leaving
         ∧ (u.crm.pulse .left .reverse u.suc.axle).rolls u.suc.vehicle.rollawayThreshold = true)
    ∧ (let s := inState .secured
       let u := made { s with crm := { s.crm with d := -200, downhill := .forward } }
       let d := drumOf u.now [0, 0, 0]
       Settled u ∧ failureRaised u = false ∧ listening u = true ∧ d.rotating ≠ u.ptb.drum.rotating
         ∧ u.stc.state = .secured ∧ u.crm.watch = true ∧ u.suc.axle = some axle
         ∧ (fullPlan { u with ptb := { u.ptb with drum := d } } axle).g = some 600
         ∧ downhillOf (some 600) u.suc.vehicle.gMin ≠ u.crm.downhill
         ∧ 200 = downhillTravel (downhillOf (some 600) u.suc.vehicle.gMin) u.crm.rollBase u.crm.d
         ∧ u.suc.vehicle.rollawayThreshold ≤ 200) :=
  ⟨⟨made_settled _, by decide +kernel⟩, ⟨made_settled _, by decide +kernel⟩, ⟨made_settled _, by decide +kernel⟩⟩

/-- A station whose rising reference stands at 130 kPa, 30 above the pressure, and moves to 160 at the evaluation. -/
def rampSample : State :=
  let s := inState .alarm
  { s with mod := { s.mod with
      pMeas := 100, applyCmd := true
      inFlight := some { freshRun { target := 300, rate := 1000, source := .alarm } 100 0 120 with
        intermediate := 130, elapsed := 60 } } }

/-- A pressure 30 kPa below the target as it stood ends the time run so far, though the target then moves on (R64, R69). -/
theorem test_sample_restarts_limit_timer :
    (match exec (.chamberPressureSample 373) (made { rampSample with hpl := { rampSample.hpl with limitTimer := some 20 } }) with
     | .next t => some (t.mod.pMeas, t.hpl.limitTimer)
     | _ => none) = some (100, some 500) := by decide +kernel

theorem test_witness_PressureSamples :
    (40 ≤ (40 : BitVec 12).toNat ∧ (40 : BitVec 12).toNat ≤ 4055) ∧ (4055 : BitVec 12).toNat ≤ 4055
      ∧ (39 : BitVec 12).toNat < 40 ∧ 4055 < (4056 : BitVec 12).toNat ∧ Settled (made (inState .holding))
      ∧ (let u := made (flying { target := 300, rate := 0, source := .alarm } (inState .alarm))
         Settled u ∧ failureRaised u = false ∧ u.stc.state = .alarm)
      ∧ (∃ f g, rampSample.mod.inFlight = some f ∧ rampSample.mod.evaluate.mod.inFlight = some g
          ∧ rampSample.mod.evaluate.ended = none ∧ rampSample.mod.pMeas + 30 = f.intermediate
          ∧ rampSample.mod.evaluate.mod.applyCmd = true ∧ rampSample.mod.pMeas + 30 < g.intermediate)
      ∧ (let s := inState .service
         let u := made { s with
           suc := { s.suc with inhibit := true }
           crm := { s.crm with standstill := true }
           ptb := { s.ptb with vehicleStationary := true } }
         Settled u ∧ failureRaised u = false ∧ u.stc.state = .service ∧ u.suc.inhibit = true
           ∧ u.ptb.vehicleStationary = true) :=
  ⟨by decide, by decide, by decide, by decide, made_settled _, ⟨made_settled _, by decide +kernel⟩,
    ⟨_, _, rfl, rfl, by decide +kernel⟩, ⟨made_settled _, by decide +kernel⟩⟩

theorem test_witness_ValveDriverFails :
    (let u := made (inState .holding)
     Settled u ∧ failureRaised u = false ∧ u.stc.state ≠ .failed ∧ u.mod.join ≠ .idleTrap)
    ∧ (let u := made (inState .offline)
       Settled u ∧ failureRaised u = false ∧ u.stc.state ≠ .failed ∧ u.mod.join = .idleTrap ∧ QueueRight u.mod) :=
  ⟨⟨made_settled _, by decide +kernel⟩, made_settled _, by decide +kernel, by decide +kernel, by decide +kernel,
    ⟨by decide +kernel, by decide +kernel, fun f h => (by cases h), by decide +kernel⟩⟩

theorem test_witness_PulseCounts :
    (inState .holding).stc.state ≠ .standstill
    ∧ (let s := inState .standstill
       let u := made { s with
         crm := { s.crm with standstill := true }
         ptb := { s.ptb with cab := { fresh := true, content := { driver := true, ignition := true } } } }
       Settled u ∧ failureRaised u = false ∧ unacknowledgedAlarms u = [] ∧ u.stc.state = .standstill
         ∧ u.crm.watch = false ∧ u.suc.inhibit = false ∧ securing u = false)
    ∧ (∀ r : Int, r = 8 ∨ r = 7 →
       (let s := inState .holding
        let u := made { s with crm := { s.crm with rebase := r } }
        Settled u ∧ u.crm.watch = true ∧ u.stc.state.monitored = true
          ∧ (-32 : Int) = (u.crm.pulse .left .reverse u.suc.axle).d ∧ u.crm.rebase = r
          ∧ u.suc.vehicle.creepThreshold = 40 ∧ ((-32 : Int) - 8).natAbs = 40 ∧ ((-32 : Int) - 7).natAbs = 39)) := by
  refine ⟨by decide, ⟨made_settled _, by decide +kernel⟩, ?_⟩
  intro r h
  refine ⟨made_settled _, ?_⟩
  rcases h with rfl | rfl <;> decide +kernel

theorem test_witness_FlagTimers :
    (State.reset.crm.standstillTimer.isSome = true ∧ State.reset.ptb.stationaryTimer = none
        ∧ State.reset.mod.springTimer = none)
    ∧ (let s := inState .free
       let u := made { s with crm := { s.crm with standstill := true, standstillTimer := none } }
       Settled u ∧ u.ptb.stationaryTimer.isSome = true ∧ u.crm.standstillTimer = none)
    ∧ (let s := inState .secured
       let u := made { s with mod := { s.mod with springTimer := some 0 } }
       Settled u ∧ u.mod.springTimer.isSome = true ∧ u.mod.parkCmd = false ∧ u.stc.state = .secured) :=
  ⟨by decide, ⟨made_settled _, by decide +kernel⟩, ⟨made_settled _, by decide +kernel⟩⟩

/-- The hold-time timer of a state run out. -/
def overHeld (st : StationState) : State :=
  let s := inState st
  made { s with stc := { s.stc with holdTimer := some 0 } }

theorem test_witness_HoldTimeLimit :
    (Settled (overHeld .holding) ∧ (overHeld .holding).stc.holdTimer.isSome = true
        ∧ (overHeld .holding).stc.state = .holding ∧ Calm (overHeld .holding)
        ∧ handoffReason (overHeld .holding) = false)
      ∧ (Settled (overHeld .leaving) ∧ (overHeld .leaving).stc.holdTimer.isSome = true
        ∧ (overHeld .leaving).stc.state = .leaving) :=
  ⟨⟨made_settled _, by decide +kernel, by decide +kernel, by unfold Calm; decide +kernel, by decide +kernel⟩,
    ⟨made_settled _, by decide +kernel⟩⟩

/-- A FREE station whose lowering timer has run out, its vehicle stationary or not. -/
def lowered (b : Bool) : State :=
  let s := inState .free
  made { s with
    stc := { s.stc with loweringTimer := some 0 }
    crm := { s.crm with standstill := b }
    ptb := { s.ptb with vehicleStationary := b } }

theorem test_witness_LoweringEnds :
    ∀ b, Settled (lowered b) ∧ Calm (lowered b) ∧ (lowered b).stc.state = .free
      ∧ (lowered b).stc.lifted = liftAsked (lowered b) ∧ (lowered b).suc.inhibit = false
      ∧ (lowered b).stc.loweringTimer.isSome = true ∧ (lowered b).ptb.vehicleStationary = b := by
  intro b
  exact ⟨made_settled _, by cases b <;> (unfold Calm; decide +kernel), by cases b <;> decide +kernel⟩

theorem test_witness_GradeAndLimitTimers :
    (let s := inState .standstill
     ({ s with glu := { s.glu with plausibilityTimer := some 0 } } : State).glu.plausibilityTimer.isSome = true)
    ∧ (let u := made (flying { target := 800, rate := 0, source := .planner }
          { inState .holding with mod := { (inState .holding).mod with applyCmd := true, pMeas := 100 } })
       Settled u ∧ Calm u ∧ u.hpl.limitTimer.isSome = true
         ∧ u.mod.inFlight = some (freshRun { target := 800, rate := 0, source := .planner } 100 0 120)
         ∧ u.stc.state = .holding ∧ u.suc.axle = some axle ∧ own u ∈ u.ptb.pool ∧ u.hpl.limited = false) :=
  ⟨by decide, ⟨made_settled _, by unfold Calm; decide +kernel, by decide +kernel⟩⟩

/-- An own flag that changes in the pool is a plan event (R34, R42): the brake capacity follows LIMITED at once. -/
theorem test_limited_computes :
    (match exec .limitTimerExpiry (made (flying { target := 800, rate := 0, source := .planner }
        { inState .holding with mod := { (inState .holding).mod with applyCmd := true, pMeas := 100 } })) with
     | .next t => some (t.hpl.bestAchieved, t.hpl.cb)
     | _ => none) = some (120, 66) := by decide +kernel

/-- A decrease wait over a target, with a step to 700 kPa in flight and submitted last. -/
def waited (pT : Nat) : State :=
  made (flying { target := 700, rate := 0, source := .planner }
    { inState .holding with
      hpl := { (inState .holding).hpl with pT := pT, lastSubmitted := 700,
                                           decreaseWait := some { remaining := 0, start := pT, lowest := pT } } })

/-- A HOLDING station that stays there, with a last submitted target, a decrease wait, and a step in flight or none; its next
computation asks for 546 kPa. -/
def planning (last : Nat) (w : Option DecreaseWait) (fl : Option Nat) : State :=
  let s := inState .holding
  made { s with
    ptb := { s.ptb with cab := { fresh := true, content := { driver := true, ignition := true }, arrival := some 0,
                                 staleTimer := some 200 } }
    hpl := { s.hpl with lastSubmitted := last, decreaseWait := w }
    mod := { s.mod with inFlight := fl.map (fun t => freshRun { target := t, rate := 0, source := .planner } 100 0 120) } }

/-- The plan of the station above at a drum notice of a drum at rest. -/
def planned (s : State) : Plan := fullPlan { s with ptb := { s.ptb with drum := drumOf s.now [0, 0, 0] } } axle

theorem test_witness_DecreaseWaitEnds :
    (∀ pT, pT = 660 ∨ pT = 661 →
      Settled (waited pT) ∧ (waited pT).hpl.decreaseWait = some { remaining := 0, start := pT, lowest := pT }
        ∧ (waited pT).stc.state = .holding ∧ (waited pT).mod.join = .planner
        ∧ (waited pT).mod.inFlight = some (freshRun { target := 700, rate := 0, source := .planner } 100 0 120)
        ∧ (waited pT).hpl.pT = pT ∧ (waited pT).hpl.lastSubmitted = 700 ∧ (waited pT).hpl.pT ≤ (waited pT).hpl.pTop
        ∧ (let u := { waited pT with mod := { (waited pT).mod with inFlight := none } }
           Settled u ∧ u.mod.inFlight = none ∧ u.hpl.pT = pT))
    ∧ (∀ c ∈ [((536 : Nat), (none : Option DecreaseWait), (none : Option Nat)), (536, none, some 545), (536, none, some 546),
          (585, none, none), (586, none, none), (586, some { remaining := 5, start := 536, lowest := 536 }, none),
          (586, some { remaining := 5, start := 537, lowest := 537 }, none),
          (585, some { remaining := 5, start := 537, lowest := 537 }, none)],
        (let u := planning c.1 c.2.1 c.2.2
         Settled u ∧ Calm u ∧ listening u = true ∧ (drumOf u.now [0, 0, 0]).rotating ≠ u.ptb.drum.rotating
           ∧ u.stc.state = .holding ∧ securing u = false ∧ handoffReason u = false ∧ u.mod.join = .planner
           ∧ u.suc.axle = some axle ∧ (planned u).pT = 546 ∧ u.hpl.lastSubmitted = c.1
           ∧ u.hpl.decreaseWait = c.2.1)) := by
  constructor
  · intro pT h
    refine ⟨made_settled _, ?_⟩
    rcases h with rfl | rfl <;> (unfold Settled; decide +kernel)
  · intro c h
    refine ⟨made_settled _, ?_⟩
    simp only [List.mem_cons, List.not_mem_nil, or_false] at h
    rcases h with rfl | rfl | rfl | rfl | rfl | rfl | rfl | rfl <;> (unfold Calm; decide +kernel)

theorem test_witness_UnitRecordsWritten :
    (let s := { inState .free with
       ptb := { (inState .free).ptb with cab := { fresh := true, staleTimer := some 0 }
                                         drum := { fresh := true, staleTimer := some 0 } } }
     Hears 8 s ∧ Hears 9 s ∧ Hears 3 s ∧ (List.replicate 8 (0 : Byte)).length = 8 ∧ s.ptb.cab.fresh = true
       ∧ s.ptb.cab.staleTimer.isSome = true ∧ s.ptb.drum.fresh = true ∧ s.ptb.drum.staleTimer.isSome = true) := by
  unfold Hears; decide +kernel

/-- A station on a stationary vehicle and a grade of 262 mg, by its latest computation. -/
def onSlope : State :=
  let s := inState .standstill
  made { s with
    crm := { s.crm with standstill := true }
    ptb := { s.ptb with vehicleStationary := true }
    hpl := { s.hpl with g := some 262, fNom := 231 } }

theorem test_witness_SecuringTakesEffect :
    (∀ st, st = StationState.standstill ∨ st = .holding →
      (let u := made (inState st)
       let p : List Byte := [0xB0, 0, 0, 0, 0, 0, 0, 0]
       Settled u ∧ Calm u ∧ listening u = true ∧ 8 ≤ p.length ∧ u.stc.state = st ∧ u.suc.inhibit = false
         ∧ u.stc.lifted = false ∧ ((readCab p).liftBits.getLsbD (own u).val && liftRole u) = false
         ∧ (readCab p).park = true))
    ∧ (let p : List Byte := [0x30, 0, 0, 230, 0, 0, 0, 0]
       Settled onSlope ∧ Calm onSlope ∧ listening onSlope = true ∧ 8 ≤ p.length ∧ onSlope.stc.state = .standstill
         ∧ onSlope.ptb.vehicleStationary = true ∧ onSlope.suc.inhibit = false ∧ onSlope.stc.lifted = false
         ∧ ((readCab p).liftBits.getLsbD (own onSlope).val && liftRole onSlope) = false
         ∧ (readCab p).park = false ∧ (readCab p).driver = true ∧ (readCab p).ignition = true
         ∧ (readCab p).pedal = false ∧ onSlope.hpl.g = some 262
         ∧ onSlope.suc.vehicle.hillThreshold ≤ (262 : Int).natAbs ∧ (readCab p).driveForce < onSlope.hpl.fNom) := by
  refine ⟨?_, made_settled _, by unfold Calm; decide +kernel, by decide +kernel⟩
  intro st h
  refine ⟨made_settled _, ?_, ?_⟩
  · rcases h with rfl | rfl <;> (unfold Calm; decide +kernel)
  · rcases h with rfl | rfl <;> decide +kernel

theorem test_witness_AcknowledgementEndsAlarm :
    (let s := inState .alarm
     let u := made { s with alarm := { s.alarm with ackArmed := true } }
     let p : List Byte := [0xF8, 0, 0, 0, 0, 0, 0, 0]
     Settled u ∧ listening u = true ∧ 8 ≤ p.length ∧ u.stc.state = .alarm ∧ failureRaised u = false
       ∧ u.suc.inhibit = false ∧ 0 < u.suc.vehicle.rollawayThreshold ∧ u.alarm.ackArmed = true ∧ u.mod.parkCmd = false
       ∧ u.crm.watch = false
       ∧ ((readCab p).liftBits.getLsbD (own u).val && liftRole u) = false
       ∧ (readCab p).ack = true ∧ (readCab p).driver = true ∧ (readCab p).pedal = true ∧ (readCab p).park = true) :=
  ⟨made_settled _, by decide +kernel⟩

/-- A marked PLANNER step to 400 kPa, in its band for a time. -/
def unparkStep (n : Nat) : InFlight :=
  { freshRun { target := 400, rate := 0, source := .planner, unpark := true } 100 0 400 with elapsed := 700, inBand := some n }

/-- A SECURED station at the end of an un-park. -/
def unparking : State :=
  let s := inState .secured
  made { s with
    stc := { s.stc with unparkMark := true }
    ptb := { s.ptb with
      cab := { fresh := true, content := { pedal := true, driver := true, ignition := true }, arrival := some 0,
               staleTimer := some 200 } }
    hpl := { s.hpl with lastSubmitted := 800 }
    mod := { s.mod with inFlight := some (unparkStep 60) } }

theorem test_witness_UnparkBegins :
    (let u := made (inState .secured)
     let p : List Byte := [0x70, 0, 0, 0, 0, 0, 0, 0]
     Settled u ∧ Calm u ∧ listening u = true ∧ 8 ≤ p.length ∧ u.stc.state = .secured ∧ u.suc.inhibit = false
       ∧ u.stc.unparkMark = false ∧ u.stc.unparkSpent = false ∧ u.mod.parkCmd = false ∧ u.suc.axle = some axle
       ∧ u.mod.join = .planner
       ∧ ((readCab p).liftBits.getLsbD (own u).val && liftRole u) = false
       ∧ (readCab p).driver = true ∧ (readCab p).park = false ∧ (readCab p).pedal = true
       ∧ (readCab p).ignition = true)
    ∧ (let raw : BitVec 12 := 1490
       let f := unparkStep 60
       Settled unparking ∧ Calm unparking ∧ 40 ≤ raw.toNat ∧ raw.toNat ≤ 4055 ∧ unparking.stc.state = .secured
         ∧ unparking.stc.unparkMark = true ∧ unparking.mod.parkCmd = false ∧ securing unparking = false ∧ handoffReason unparking = false
         ∧ unparking.mod.join = .planner ∧ unparking.mod.queue = [] ∧ unparking.mod.inFlight = some f
         ∧ f.step.source = .planner ∧ f.step.unpark = true ∧ f.elapsed < f.allowed ∧ movedReference f = f.step.target
         ∧ distance f.step.target (raw.toNat * 1100 / 4096) ≤ 15 ∧ f.inBand.any (fun n => decide (60 ≤ n)) = true
         ∧ unparking.suc.axle = some axle ∧ (fullPlan unparking axle).pT < unparking.hpl.lastSubmitted + 10) :=
  ⟨⟨made_settled _, by unfold Calm; decide +kernel, by decide +kernel⟩,
    ⟨made_settled _, by unfold Calm; decide +kernel, by decide +kernel⟩⟩

theorem test_witness_StatusRewritesEntry :
    (1 : Origin).val = (1 : StationNo).val ∧ Hears 1 (inState .free)
      ∧ (readStatus (statusPayload (peer .holding))).isSome = true ∧ readStatus [] = none
      ∧ readStatus (0xA0 :: List.replicate 11 0) = none := by
  unfold Hears; decide +kernel

theorem test_witness_EntriesAge :
    (let s := withEntry 1 (peer .holding) (inState .holding)
     (1 : StationNo) ≠ own s ∧ (entryOf s 1).presence = .fresh ∧ (entryOf s 1).deadline.isSome = true
       ∧ (entryOf s 1).presence ≠ .absent ∧ (2 : StationNo) = own s) := by decide

theorem test_witness_ForeignOwnOrigin :
    (let u := made (inState .free)
     Settled u ∧ listening u = true ∧ (List.replicate 6 (0 : Byte)).length = 6 ∧ u.stc.state.alarmable = true
       ∧ failureRaised u = false) :=
  ⟨made_settled _, by decide +kernel⟩

theorem test_witness_AlarmNoticeTaken :
    ∀ st, (let u := made (inState st)
      Settled u ∧ Hears 1 u ∧ (1 : Origin).val = (1 : StationNo).val ∧ failureRaised u = false
        ∧ u.stc.state.alarmable = st.alarmable) := by
  intro st
  refine ⟨made_settled _, ?_⟩
  cases st <;> (unfold Hears; decide +kernel)

/-- A leaver in an exchange, its one pool peer having yet to answer. -/
def leaver : State :=
  let s := withEntry 1 (peer .holding) (inState .leaving)
  made { s with
    stc := { s.stc with origin := some .holding, leaveReason := some .inhibit }
    suc := { s.suc with inhibit := true }
    hoe := { s.hoe with phase := .exchange, toggle := true, attempts := 10, attemptTimer := some 0 } }

/-- A leaver in an exchange that hears another one, the driver at the wheel. -/
def leaverHears (m : StationNo) : State :=
  let s := withEntry m (peer .leaving) (inState .leaving)
  made { s with
    stc := { s.stc with origin := some .secured, leaveReason := some .inhibit }
    suc := { s.suc with inhibit := true }
    mod := { s.mod with parkCmd := false }
    ptb := { s.ptb with
      cab := { fresh := true, content := { driver := true, ignition := true }, arrival := some 0, staleTimer := some 200 } }
    hoe := { s.hoe with phase := .exchange, toggle := true, attempts := 1, attemptTimer := some 50 } }

theorem test_witness_LeaverIsMarked :
    (let s := withEntry 1 (peer .leaving) (inState .holding)
     Hears 1 s ∧ (1 : Origin).val = (1 : StationNo).val
       ∧ readRequest [1, 1, 0, 0, 223] = some { leaver := 1, toggle := true, reason := .lift, force := 223 }
       ∧ (entryOf s 1).presence = .fresh ∧ (entryOf (inState .holding) 1).presence ≠ .fresh
       ∧ readRequest [1, 2, 0, 0, 223] = none ∧ readCancel [1, 1] = some { leaver := 1, toggle := true }
       ∧ readRequest [3, 1, 0, 0, 223] = some { leaver := 3, toggle := true, reason := .lift, force := 223 }
       ∧ readCancel [3, 1] = some { leaver := 3, toggle := true } ∧ (3 : StationNo) ≠ 1)
    ∧ (∀ m : StationNo, m = 1 ∨ m = 3 →
        Settled (leaverHears m) ∧ Calm (leaverHears m) ∧ Hears ⟨m.val, by omega⟩ (leaverHears m)
          ∧ (entryOf (leaverHears m) m).presence = .fresh ∧ (leaverHears m).stc.state = .leaving
          ∧ (leaverHears m).hoe.phase = .exchange ∧ (leaverHears m).mod.join = .planner
          ∧ (leaverHears m).stc.limitMark = false ∧ securing (leaverHears m) = false
          ∧ leaveReasonCeased (leaverHears m) = false ∧ own (leaverHears m) = 2) := by
  refine ⟨by unfold Hears; decide +kernel, ?_⟩
  intro m h
  refine ⟨made_settled _, ?_, ?_, ?_⟩
  · rcases h with rfl | rfl <;> (unfold Calm; decide +kernel)
  · rcases h with rfl | rfl <;> (unfold Hears; decide +kernel)
  · rcases h with rfl | rfl <;> decide +kernel

/-- A station with the driver at the wheel that has answered ACCEPT to the leaver 1, the only one on record. -/
def asked (st : StationState) : State :=
  let s := withEntry 1 (peer .leaving) (inState st)
  made { s with
    suc := { s.suc with inhibit := decide (st = .service) }
    ptb := { s.ptb with
      cab := { fresh := true, content := { driver := true, ignition := true }, arrival := some 0, staleTimer := some 200 } }
    hoe := { s.hoe with
      repliers := s.hoe.repliers.set 1 { toggle := some true, reason := some .lift, force := 223, answer := some .accept } } }

theorem test_witness_AnswersOfTable62 :
    isolatedFlags (raiseFault .duplicateId (inState .standstill)) = true
      ∧ isolatedFlags (inState .holding) = false ∧ hasFault (inState .holding) .shortfall = false
      ∧ peerAnswer (inState .holding) = some .accept
      ∧ readRequest [1, 1, 0, 0, 223] = some { leaver := 1, toggle := true, reason := .lift, force := 223 }
      ∧ (∀ st ∈ [StationState.holding, .secured, .alarm, .releasing, .failed, .free, .service],
          Settled (asked st) ∧ Calm (asked st) ∧ Hears 1 (asked st) ∧ (asked st).stc.state = st
            ∧ (entryOf (asked st) 1).presence = .fresh
            ∧ (∀ n, n ≠ 1 → ((asked st).hoe.repliers.get n).toggle = none)
            ∧ (asked st).suc.inhibit = decide (st = .service) ∧ (asked st).ptb.vehicleStationary = false)
      ∧ (Settled onSlope ∧ Calm onSlope ∧ onSlope.suc.inhibit = false ∧ onSlope.ptb.vehicleStationary = true
          ∧ onSlope.stc.lifted = false ∧ liftAsked onSlope = false)
      ∧ (∀ st ∈ [StationState.holding, .secured],
          Hears 8 (asked st) ∧ (asked st).hoe.planPending = false ∧ (asked st).suc.inhibit = false
            ∧ (readCab [0xB0, 0, 0, 0, 0, 0, 0, 0]).park ≠ (readCab [0x30, 0, 0, 0, 0, 0, 0, 0]).park
            ∧ (cabNow (asked st)).park = false
            ∧ ((asked st).hoe.repliers.get 1).toggle = some true
            ∧ ((asked st).hoe.repliers.get 1).answer = some .accept) := by
  refine ⟨by decide, by decide, by decide, by decide, by decide, ?_,
    ⟨made_settled _, by unfold Calm; decide +kernel, by decide +kernel⟩, ?_⟩
  · intro st h
    simp only [List.mem_cons, List.not_mem_nil, or_false] at h
    refine ⟨made_settled _, ?_, ?_, ?_⟩
    · rcases h with rfl | rfl | rfl | rfl | rfl | rfl | rfl <;> (unfold Calm; decide +kernel)
    · rcases h with rfl | rfl | rfl | rfl | rfl | rfl | rfl <;> (unfold Hears; decide +kernel)
    · rcases h with rfl | rfl | rfl | rfl | rfl | rfl | rfl <;> decide +kernel
  · intro st h
    simp only [List.mem_cons, List.not_mem_nil, or_false] at h
    rcases h with rfl | rfl <;> (unfold Hears; decide +kernel)

theorem test_witness_ReplyTaken :
    (Settled leaver ∧ Hears 1 leaver ∧ (1 : Origin).val = (1 : StationNo).val)
      ∧ (readReply [2, 1, 1, 2, 0, 0]
            = some { leaver := own leaver, replier := 1, toggle := leaver.hoe.toggle, answer := .refuse, force := 0 }
          ∧ readReply [2, 1, 1, 0, 1, 0]
            = some { leaver := own leaver, replier := 1, toggle := leaver.hoe.toggle, answer := .accept, force := 256 }
          ∧ readReply [2, 1, 1, 1, 1, 0]
            = some { leaver := own leaver, replier := 1, toggle := leaver.hoe.toggle, answer := .defer, force := 256 })
      ∧ (leaver.stc.state = .leaving ∧ leaver.hoe.phase = .exchange ∧ leaveReasonCeased leaver = false
          ∧ leaver.mod.join = .planner)
      ∧ Calm leaver
      ∧ exchangeSucceeds { leaver with hoe := { leaver.hoe with
          replies := leaver.hoe.replies.set 1 (some { answer := .accept, force := 256 }) } } = true
      ∧ exchangeSucceeds { leaver with hoe := { leaver.hoe with
          replies := leaver.hoe.replies.set 1 (some { answer := .defer, force := 256 }) } } = false :=
  ⟨⟨made_settled _, by unfold Hears; decide +kernel⟩, by decide +kernel, by decide +kernel,
    by unfold Calm; decide +kernel, by decide +kernel, by decide +kernel⟩

theorem test_witness_AttemptsAndRetry :
    (Settled leaver ∧ leaver.stc.state = .leaving ∧ leaver.hoe.phase = .exchange
        ∧ leaver.hoe.attemptTimer.isSome = true ∧ 10 ≤ leaver.hoe.attempts)
      ∧ (let u := { leaver with hoe := { leaver.hoe with attempts := 9 } }
         Settled u ∧ u.stc.state = .leaving ∧ u.hoe.phase = .exchange ∧ u.hoe.attemptTimer.isSome = true
           ∧ u.hoe.attempts < 10)
      ∧ (let s := inState .secured
         let u := made { s with
           suc := { s.suc with inhibit := true }
           hoe := { s.hoe with retryWait := some 0 } }
         Settled u ∧ Calm u ∧ u.hoe.retryWait.isSome = true ∧ u.stc.state = .secured ∧ handoffReason u = true
           ∧ peerLeaving u = false ∧ u.hoe.phase = .idle ∧ u.mod.join = .planner) :=
  ⟨⟨made_settled _, by decide +kernel⟩, ⟨by unfold Settled; decide +kernel, by decide +kernel⟩,
    ⟨made_settled _, by unfold Calm; decide +kernel, by decide +kernel⟩⟩

/-- A cab that asks for a move: FORWARD with a drive force, the driver present, the park switch off and the ignition on. -/
def movingCab : CabRecord :=
  { fresh := true, content := { driver := true, ignition := true, gear := .forward, driveForce := 2000 },
    arrival := some 0, staleTimer := some 200 }

/-- A station of role DRIVE that waits for its turn. -/
def waitsTurn : State :=
  let s := inState .releasing
  made { s with
    ptb := { s.ptb with cab := movingCab }
    rsq := { s.rsq with phase := .waitingTurn, rank := some 2, turnTimer := some 0, entryGear := some .forward } }

theorem test_witness_ReleaseBegins :
    (let s := inState .holding
     let u := made { s with ptb := { s.ptb with cab := movingCab } }
     Settled u ∧ Calm u ∧ u.stc.state = .holding ∧ u.rsq.driveOffTimer.isSome = true
       ∧ 0 < u.suc.vehicle.rollbackLimit)
    ∧ (Settled waitsTurn ∧ waitsTurn.stc.state = .releasing ∧ waitsTurn.rsq.phase = .waitingTurn
        ∧ waitsTurn.rsq.turnTimer.isSome = true ∧ waitsTurn.mod.join = .release ∧ waitsTurn.mod.queue = []
        ∧ waitsTurn.mod.inFlight = none ∧ waitsTurn.mod.pMeas ≤ waitsTurn.hpl.pTop) :=
  ⟨⟨made_settled _, by unfold Calm; decide +kernel, by decide +kernel⟩, ⟨made_settled _, by decide +kernel⟩⟩

/-- The second step of a release profile, in its band for a time. -/
def lastStep (n : Nat) : InFlight :=
  { freshRun { target := 0, rate := 1000, source := .release } 300 0 300 with elapsed := 400, inBand := some n }

/-- A release whose second step comes to its end, or has ended with the pressure still high. -/
def releasing (both : Bool) : State :=
  let s := inState .releasing
  made { s with
    ptb := { s.ptb with cab := movingCab }
    rsq := { s.rsq with phase := .ramping, rank := some 0, entryGear := some .forward, profileAppended := true,
                        rampSteps := if both then 2 else 1 }
    mod := { s.mod with inFlight := if both then none else some (lastStep 60), standing := if both then some 0 else none } }

/-- A leaver whose hand-off ramp comes to its end. -/
def venting (r : LeaveReason) : State :=
  let s := inState .leaving
  made { s with
    stc := { s.stc with origin := some .holding, leaveReason := some r }
    suc := { s.suc with inhibit := decide (r = .inhibit) }
    hoe := { s.hoe with phase := .ramp, rampSteps := 1 }
    mod := { s.mod with join := .release, inFlight := some (lastStep 60) } }

/-- A STATUS of a FRESH peer that shows RELEASE_ABORT. -/
def abortStatus : List Byte := statusPayload { peer .holding with flags := { standstill := true, releaseAbort := true } }

/-- A release that a pulse will find to have rolled back, the drive-off condition having just failed or not. -/
def rollingBack : State :=
  let s := releasing false
  made { s with crm := { s.crm with left := -3, right := -3, axle := -3, d := -96 } }

/-- A FREE station in its re-hold window, lifted or not, the driver at the wheel. -/
def justFree (l : Bool) : State :=
  let s := withEntry 1 (peer .holding) (inState .free)
  made { s with
    ptb := { s.ptb with cab := movingCab }
    stc := { s.stc with lifted := l }
    rsq := { s.rsq with releaseCompleted := some 0, reholdWindow := some 1500 } }

theorem test_witness_ReleaseEnds :
    (let u := { waitsTurn with rsq := { waitsTurn.rsq with lapseTimer := some 0 } }
     u.stc.state = .releasing ∧ u.rsq.phase ≠ .idle ∧ u.rsq.lapseTimer.isSome = true)
    ∧ (waitsTurn.rsq.phase ≠ .idle ∧ waitsTurn.rsq.lapseTimer = none)
    ∧ (let s := inState .holding
       let u := made { s with rsq := { s.rsq with abortFlag := true, abortFlagTimer := some 0, reholdWindow := some 0 } }
       u.rsq.abortFlagTimer.isSome = true ∧ u.rsq.reholdWindow.isSome = true ∧ Settled u)
    ∧ (let s := inState .holding
       let u := made { s with
         rsq := { s.rsq with abortFlag := true, abortFlagTimer := some 0 }
         ptb := { s.ptb with cab := movingCab } }
       Settled u ∧ Calm u ∧ u.stc.state = .holding ∧ securing u = false ∧ handoffReason u = false
         ∧ u.suc.axle = some axle ∧ own u ∈ u.ptb.pool ∧ u.rsq.abortFlag = true)
    ∧ (let s := inState .free
       let u := made { s with rsq := { s.rsq with abortFlag := true, abortFlagTimer := some 0 } }
       Settled u ∧ own u ∉ u.ptb.pool)
    ∧ (inState .free).rsq.reholdWindow = none
    ∧ (∀ b, Settled (releasing b) ∧ Calm (releasing b) ∧ (releasing b).stc.state = .releasing
        ∧ (releasing b).rsq.phase = .ramping ∧ (releasing b).crm.watch = false ∧ (releasing b).ptb.abortPeer = false
        ∧ ((releasing b).crm.d - (releasing b).rsq.rollbackBase).natAbs < (releasing b).suc.vehicle.rollbackLimit
        ∧ lastStepEnds (if b then 21 else 15) (releasing b).rsq.rampSteps (releasing b) = true
        ∧ (releasing b).ptb.vehicleStationary = false ∧ (releasing b).suc.inhibit = false
        ∧ (56 : BitVec 12).toNat * 1100 / 4096 = 15 ∧ (79 : BitVec 12).toNat * 1100 / 4096 = 21)
    ∧ (∀ r, Settled (venting r) ∧ Calm (venting r) ∧ (venting r).stc.state = .leaving ∧ (venting r).hoe.phase = .ramp
        ∧ lastStepEnds 15 (venting r).hoe.rampSteps (venting r) = true ∧ (venting r).stc.leaveReason = some r
        ∧ (venting r).suc.inhibit = decide (r = .inhibit) ∧ (venting r).ptb.vehicleStationary = false)
    ∧ (let s := venting .lift
       let u := made { s with hoe := { s.hoe with rampSteps := 2 }, mod := { s.mod with inFlight := none } }
       Settled u ∧ Calm u ∧ u.stc.state = .leaving ∧ u.hoe.phase = .ramp
         ∧ lastStepEnds 21 u.hoe.rampSteps u = true)
    ∧ (Settled rollingBack ∧ Calm rollingBack ∧ rollingBack.stc.state = .releasing ∧ rollingBack.rsq.phase ≠ .idle
        ∧ rollingBack.crm.watch = false
        ∧ rollingBack.crm.downhill = downhillOf rollingBack.hpl.g rollingBack.suc.vehicle.gMin
        ∧ rollingBack.suc.vehicle.rollbackLimit
            ≤ rollbackTravel rollingBack.crm.downhill rollingBack.rsq.entryGear rollingBack.rsq.rollbackBase
                (rollingBack.crm.pulse .left .reverse rollingBack.suc.axle).d
        ∧ securing rollingBack = false ∧ handoffReason rollingBack = false)
    ∧ ((readStatus abortStatus).map (fun e => (e.flags.releaseAbort, decide (e.state = .alarm))) = some (true, false)
        ∧ Hears 1 rollingBack ∧ (entryOf rollingBack 1).showsAbort = false)
    ∧ (∀ l, Settled (justFree l) ∧ Calm (justFree l) ∧ (justFree l).stc.state = .free ∧ Hears 1 (justFree l)
        ∧ (justFree l).rsq.reholdWindow.isSome = true ∧ (entryOf (justFree l) 1).showsAbort = false
        ∧ (justFree l).crm.watch = false ∧ (justFree l).stc.lifted = l ∧ (justFree l).stc.loweringTimer = none
        ∧ (justFree l).suc.inhibit = false ∧ (justFree l).ptb.vehicleStationary = false
        ∧ securing (justFree l) = false ∧ handoffReason (justFree l) = false) := by
  refine ⟨by decide +kernel, by decide +kernel, ⟨by decide +kernel, by decide +kernel, made_settled _⟩,
    ⟨made_settled _, by unfold Calm; decide +kernel, by decide +kernel⟩, ⟨made_settled _, by decide +kernel⟩, by decide, ?_, ?_,
    ⟨made_settled _, by unfold Calm; decide +kernel, by decide +kernel⟩,
    ⟨made_settled _, by unfold Calm; decide +kernel, by decide +kernel⟩, by unfold Hears; decide +kernel, ?_⟩
  · intro b
    exact ⟨made_settled _, by cases b <;> (unfold Calm; decide +kernel), by cases b <;> decide +kernel⟩
  · intro r
    exact ⟨made_settled _, by cases r <;> (unfold Calm; decide +kernel), by cases r <;> decide +kernel⟩
  · intro l
    exact ⟨made_settled _, by cases l <;> (unfold Calm; decide +kernel),
      by cases l <;> (unfold Hears; decide +kernel)⟩

theorem test_witness_ConfigTaken :
    (let p : List Byte := [200, 8, 40, 0, 200, 30, 20, 120, 0, 100, 0, 100]
     let s := inState .standstill
     let u := { s with suc := { s.suc with lock := true, accepted := some p } }
     listening s = true ∧ p.length = 12 ∧ s.suc.lock = false ∧ s.stc.state = .standstill
       ∧ u.suc.lock = true ∧ u.suc.accepted = some p ∧ u.suc.accepted ≠ some (p.set 0 80)
       ∧ ([] : List Byte).length ≠ 12
       ∧ (inState .holding).suc.lock = false ∧ (inState .holding).stc.state = .holding
       ∧ (9 : Origin) ≠ 8 ∧ (9 : Origin).val ≠ (own s).val) := by decide +kernel

theorem test_witness_FramesNobodyTakes :
    (let f : Frame := { cls := 7, origin := 9, payload := [] }
     let lost (a : Bool) (n : Nat) : State :=
       { inState .free with lnk := { (inState .free).lnk with link := some .lost, recoveryAck := a, recoveryFrames := n } }
     frameRow (own (inState .free)) f = .unclaimedValidFrame f ∧ listening (inState .free) = true
      ∧ (inState .free).lnk.link ≠ some .lost
      ∧ listening (lost true 2) = true ∧ (lost true 2).lnk.recoveryFrames < 3 ∧ (lost false 3).lnk.recoveryAck = false
      ∧ (lost true 3).lnk.recoveryAck = true ∧ 3 ≤ (lost true 3).lnk.recoveryFrames
      ∧ listening { inState .free with lnk := { (inState .free).lnk with link := none } } = false) := by
  decide +kernel

/-- Station 2 with slots filled. -/
def filledSlots (a h st d : Bool) : State :=
  let s := inState .alarm
  { s with lnk := { s.lnk with
      alarmSlot := if a then some { reason := .slip, travel := 0, grade := 262 } else none
      handoffSlot := if h then some (.cancel true) else none
      statusPending := st
      diagSlot := if d then some { item := 0, result := .done, part := 0, last := true, body := [0, 0, 0, 7] } else none } }

theorem test_witness_TransmissionStarts :
    (listening (filledSlots true true true true) = true ∧ (filledSlots true true true true).lnk.transmission = none
        ∧ (filledSlots true true true true).lnk.alarmSlot.isSome = true)
      ∧ ((filledSlots false true true true).lnk.alarmSlot = none
        ∧ (filledSlots false true true true).lnk.handoffSlot.isSome = true)
      ∧ ((filledSlots false false true true).lnk.handoffSlot = none
        ∧ (filledSlots false false true true).lnk.statusPending = true)
      ∧ ((filledSlots false false false true).lnk.statusPending = false
        ∧ (filledSlots false false false true).lnk.diagSlot.isSome = true) := by decide +kernel

/-- A STATUS on the link after a number of failed attempts, in a link state. -/
def sending (l : LinkState) (failures frames : Nat) : State :=
  let s := inState .free
  { s with lnk := { s.lnk with
      link := some l, failures := failures, recoveryFrames := frames,
      transmission := some { slot := .diag, frame := slotFrame s .status, renewed := false } } }

theorem test_witness_FailuresMoveTheLink :
    (∀ l n f, (sending l n f).lnk.transmission
        = some { slot := .diag, frame := slotFrame (inState .free) .status, renewed := false }
      ∧ (sending l n f).lnk.link = some l ∧ (sending l n f).lnk.failures = n ∧ (sending l n f).lnk.recoveryFrames = f)
      ∧ (6 : Nat) < 7 ∧ (30 : Nat) < 31 ∧ (3 : Nat) < 4
      ∧ (let u := made (sending .active 30 0)
         Settled u ∧ u.lnk.transmission.isSome = true ∧ u.lnk.link ≠ some .lost)
      ∧ (let u := made (sending .lost 32 0)
         Settled u ∧ u.lnk.transmission.isSome = true ∧ u.lnk.link = some .lost) :=
  ⟨fun _ _ _ => ⟨rfl, rfl, rfl, rfl⟩, by decide, by decide, by decide, ⟨made_settled _, by decide +kernel⟩,
    ⟨made_settled _, by decide +kernel⟩⟩

theorem test_witness_LinkTimers :
    (inState .free).lnk.receiveTimer.isSome = true ∧ (inState .free).lnk.link ≠ some .lost
      ∧ (sending .lost 32 0).lnk.receiveTimer.isSome = true ∧ (sending .lost 32 0).lnk.link = some .lost
      ∧ (inState .free).lnk.announceTimer.isSome = true := by decide

theorem test_witness_Asked : ∀ item part v, Asked (asks item part v) (inState .service) := fun _ _ _ => by
  refine ⟨?_, ?_, ?_⟩
  · show listening (inState .service) = true
    decide
  · show 14 ≤ (14 : Origin).val
    decide
  · show (2 : Byte).toNat = (own (inState .service)).val
    decide

/-- Items 152 to 161 are the ten quantities of Table 9-1 after the slots, each mark an item (R166): 157 counts the frames. -/
theorem test_lnk_items :
    (itemValues { inState .service with lnk := { (inState .service).lnk with recoveryFrames := 3 } } 157) = some [num 3]
      ∧ (itemValues (inState .service) 161).isSome = true ∧ itemValues (inState .service) 162 = none := by decide

theorem test_witness_ReadsAndRefusals :
    (itemValues (inState .service) 0 = some [num 8] ∧ [num 8][0]? = some (num 8))
      ∧ ((∀ vs, itemValues (inState .service) 0 = some vs → vs.length ≤ (1 : Byte).toNat)
          ∧ isRecord 0 = false ∧ (0 : Nat) ≠ testItem)
      ∧ (∀ vs, itemValues (inState .service) 255 = some vs → vs.length ≤ (0 : Byte).toNat)
      ∧ isRecord (224 : Byte).toNat = true ∧ isRecord (237 : Byte).toNat = true ∧ 5 ≤ (5 : Byte).toNat
      ∧ (0 : Byte) ≠ 240 ∧ Hears 14 (inState .service) ∧ (3 : Byte).toNat ≠ (own (inState .service)).val
      ∧ Hears 13 (inState .service) ∧ (13 : Origin).val < 14 := by
  refine ⟨by decide, ⟨?_, by decide⟩, ?_, by decide, by decide, by decide, by decide, by unfold Hears; decide, by decide,
    by unfold Hears; decide, by decide⟩
  · intro vs h
    have e : itemValues (inState .service) 0 = some [num 8] := by decide
    rw [e] at h
    cases h
    decide
  · intro vs h
    have e : itemValues (inState .service) 255 = none := by decide
    rw [e] at h
    cases h

theorem test_witness_ClearAnswers :
    (let s := raiseFault .stepUnreached (inState .free)
     let u := { s with hpl := { s.hpl with limited := true } }
     24 ≤ (33 : Byte).toNat ∧ allFlags[(33 : Byte).toNat - 24]? = some .stepUnreached ∧ Flag.sticky .stepUnreached = true
       ∧ hasFault u .stepUnreached = true ∧ clearBlocked { u with lnk := u.lnk.heard } .stepUnreached = true
       ∧ hasFault s .stepUnreached = true ∧ clearBlocked { s with lnk := s.lnk.heard } .stepUnreached = false
       ∧ (23 : Byte).toNat < 24 ∧ 40 ≤ (40 : Byte).toNat)
    ∧ (allFlags[(38 : Byte).toNat - 24]? = some .shortfall ∧ Flag.sticky .shortfall = false
        ∧ hasFault (made (raiseFault .shortfall (inState .holding))) .shortfall = true)
    ∧ (let u := made (raiseFault .queueOverrun (inState .free))
       Settled u ∧ JoinRight u ∧ hasFault u .queueOverrun = true
         ∧ clearBlocked { u with lnk := u.lnk.heard } .queueOverrun = false) :=
  ⟨by decide +kernel, by decide +kernel, made_settled _, by unfold JoinRight; decide +kernel, by decide +kernel⟩

/-- A station in SERVICE on a stationary vehicle, under the TEST join with steps waiting. -/
def testing (j : Join) (n : Nat) : State :=
  let s := inState .service
  let step : Step := { target := 400, rate := 0, source := .test }
  made { s with
    suc := { s.suc with inhibit := true }
    crm := { s.crm with standstill := true }
    ptb := { s.ptb with vehicleStationary := true }
    mod := { s.mod with join := j, queue := List.replicate n step,
                        inFlight := if j = .test then some (freshRun step 0 0 0) else none } }

theorem test_witness_TestTaken :
    (∀ j n, (j, n) ∈ [(Join.idleVent, 0), (.test, 15), (.test, 16)] →
      (let u := testing j n
       let q := asks 240 0 0x03E82710
       Settled u ∧ u.stc.state = .service ∧ u.ptb.vehicleStationary = true ∧ testTarget q = 1000
         ∧ testRate q = 10000 ∧ u.suc.inhibit = true ∧ failureRaised u = false ∧ u.mod.join = j
         ∧ u.mod.queue.length = n))
      ∧ ((inState .free).stc.state ≠ .service ∧ 1000 < testTarget (asks 0 0 0x03E90000)) := by
  refine ⟨?_, by decide⟩
  intro j n h
  refine ⟨made_settled _, ?_⟩
  simp only [List.mem_cons, List.not_mem_nil, or_false, Prod.mk.injEq] at h
  rcases h with ⟨rfl, rfl⟩ | ⟨rfl, rfl⟩ | ⟨rfl, rfl⟩ <;> decide +kernel

theorem test_witness_RecordAnswers :
    (let s := inState .service
     let k : Cursor := { item := 234, parts := queueParts s.mod ++ [[1], [2]] }
     let u := { s with dgr := { s.dgr with cursor := some k } }
     isRecord 234 = true ∧ isRecord 0 = false ∧ ((recordParts { s with lnk := s.lnk.heard } 234)[0]?).isSome = true
       ∧ u.dgr.cursor = some k ∧ k.parts[(2 : Byte).toNat]? = some [2] ∧ k.parts.length ≤ (3 : Byte).toNat
       ∧ (2 : Byte) ≠ 0)
    ∧ (∀ k, (inState .service).dgr.cursor = some k → k.item ≠ 234 ∨ k.parts.length ≤ (1 : Byte).toNat) :=
  ⟨by decide +kernel, fun k h => nomatch h⟩

end Sys2Proof.Tests
end

section
/-! PROOFS. What the parts of an event that take no transition leave alone (`Quietly`): bringing the table up to date, a
computation, the end of a step as HPL takes it, the answers to the leavers. -/

namespace Sys2Proof.Machine

set_option Elab.async false

/-! ### The view that no quiet part of an event changes -/

/-- What only a transition, a test of the exits or the end of a ramp writes. -/
structure Standing where
  stc : Stc
  alarm : AlarmRecord
  planLock : Bool
  crm : Crm
  hoe : Hoe
  rsq : Rsq
  alarmSlot : Option AlarmNotice

/-- The park valve, the join and the springs of MOD. -/
structure Outfit where
  parkCmd : Bool
  join : Join
  springsCounted : Bool
  springTimer : Timer
  lastEnergising : Option Energising

/-- The part of MOD that its queue does not write. -/
def Mod.outfit (m : Mod) : Outfit :=
  { parkCmd := m.parkCmd, join := m.join, springsCounted := m.springsCounted, springTimer := m.springTimer,
    lastEnergising := m.lastEnergising }

/-- The standing part of a state; what a quiet part of an event may write is blanked. -/
def standing (s : State) : Standing :=
  { stc := { s.stc with faults := {}, faultLine := false }
    alarm := { s.alarm with ackPeers := Table.fill false }
    planLock := s.hpl.planLock
    crm := { s.crm with downhill := .either }
    hoe := { s.hoe with repliers := Table.fill {}, planPending := false }
    rsq := { s.rsq with driveOffTimer := none, lapseTimer := none }
    alarmSlot := s.lnk.alarmSlot }

/-- The part of the agenda that comes from outside the event's own reports grows by superseded steps alone, and by a rollaway
only where the watch stands a threshold from its base. -/
structure CallsNoMore (s t : State) : Prop where
  ends : ∀ e ∈ t.agenda.ends, e ∈ s.agenda.ends ∨ e.outcome = .superseded
  rollaways : ∀ r ∈ t.agenda.rollaways, r ∈ s.agenda.rollaways
    ∨ (s.crm.watch = true ∧ s.suc.vehicle.rollawayThreshold ≤ (s.crm.d - s.crm.rollBase).natAbs)
  peerAlarms : ∀ n ∈ t.agenda.peerAlarms, n ∈ s.agenda.peerAlarms
  yields : ∀ n ∈ t.agenda.yields, n ∈ s.agenda.yields
  abortEvent : t.agenda.abortEvent = true → s.agenda.abortEvent = true
  turn : t.agenda.turn = true → s.agenda.turn = true

/-- The raw condition of vehicle-stationary, from the own flag and the peers' entries (R36). -/
def rawOf (s : State) : Bool :=
  s.crm.standstill && !anyPeer (own s) s.ptb.entries (fun e => e.isFresh && !e.flags.standstill)

/-- Some FRESH peer shows RELEASE_ABORT (R39). -/
def peerAborts (s : State) : Bool := anyPeer (own s) s.ptb.entries Entry.showsAbort

/-- What every part of an event that takes no transition does at most; MOD's outfit may be another after it. -/
structure Nearly (s t : State) : Prop where
  steady : steady t = steady s
  standing : standing t = standing s
  alarms : unacknowledgedAlarms t = unacknowledgedAlarms s
  stationary : t.ptb.vehicleStationary = true → s.ptb.vehicleStationary = true
  stays : s.ptb.vehicleStationary = true → rawOf s = true → t.ptb.vehicleStationary = true
  abortPeer : t.ptb.abortPeer = true → s.ptb.abortPeer = true ∨ peerAborts s = true
  sticky : ∀ f : Flag, f.sticky = true → f ≠ .queueOverrun → t.stc.faults.get f = s.stc.faults.get f
  overrun : s.stc.faults.queueOverrun = true → t.stc.faults.queueOverrun = true
  shortfall : t.stc.faults.shortfall = true → s.stc.faults.shortfall = true ∨ s.stc.state.sharing = true
  spring : t.stc.faults.springShortfall = true → s.stc.faults.springShortfall = true ∨ s.stc.state = .secured
  wait : t.hpl.decreaseWait.isSome = true →
    s.hpl.decreaseWait.isSome = true ∨ s.stc.state = .holding ∨ s.stc.state = .secured
  status : s.lnk.statusPending = true → t.lnk.statusPending = true
  calls : CallsNoMore s t

/-- What every quiet part of an event does at most: it keeps MOD's outfit, and every sticky flag. -/
structure Quietly (s t : State) : Prop extends Nearly s t where
  outfit : t.mod.outfit = s.mod.outfit
  noOverrun : t.stc.faults.queueOverrun = s.stc.faults.queueOverrun

/-! ### Reading the two views -/

theorem state_of_standing {s t : State} (h : standing t = standing s) : t.stc.state = s.stc.state :=
  congrArg (fun x => x.stc.state) h
theorem watch_of_standing {s t : State} (h : standing t = standing s) : t.crm.watch = s.crm.watch :=
  congrArg (fun x => x.crm.watch) h
theorem suc_of_steady {s t : State} (h : steady t = steady s) : t.suc = s.suc := congrArg Steady.suc h
theorem cab_of_steady {s t : State} (h : steady t = steady s) : t.ptb.cab = s.ptb.cab := congrArg Steady.cab h

theorem own_of_steady {s t : State} (h : steady t = steady s) : own t = own s := by
  simp only [own, suc_of_steady h]

theorem peers_of_steady {s t : State} (h : steady t = steady s) {n : StationNo} (hn : n ≠ own s) :
    entryOf t n = entryOf s n := by
  have h1 := congrArg (fun x => x.peers.get n) h
  have h2 : n ≠ s.suc.sid := hn
  simpa [Machine.steady, suc_of_steady h, Table.get_set_of_ne _ _ h2, entryOf] using h1

theorem anyPeer_congr {self : StationNo} {t u : Table Entry} (h : ∀ n, n ≠ self → t.get n = u.get n)
    (p : Entry → Bool) : anyPeer self t p = anyPeer self u p := by
  unfold anyPeer
  congr 1
  funext n
  by_cases hn : n = self
  · simp [hn]
  · rw [h n hn]

theorem anyPeer_of_steady {s t : State} (h : steady t = steady s) (p : Entry → Bool) :
    anyPeer (own t) t.ptb.entries p = anyPeer (own s) s.ptb.entries p := by
  rw [own_of_steady h]
  exact anyPeer_congr (fun n hn => peers_of_steady h hn) p

theorem rawOf_of_steady {s t : State} (h : steady t = steady s) : rawOf t = rawOf s := by
  unfold rawOf
  rw [anyPeer_of_steady h, show t.crm.standstill = s.crm.standstill from congrArg Steady.standstill h]

theorem peerAborts_of_steady {s t : State} (h : steady t = steady s) : peerAborts t = peerAborts s :=
  anyPeer_of_steady h _

/-! ### Quiet parts in a row -/

theorem CallsNoMore.refl (s : State) : CallsNoMore s s where
  ends := fun _ h => .inl h
  rollaways := fun _ h => .inl h
  peerAlarms := fun _ h => h
  yields := fun _ h => h
  abortEvent := fun h => h
  turn := fun h => h

theorem CallsNoMore.trans {s t u : State} (hw : t.crm.watch = s.crm.watch) (hd : t.crm.d = s.crm.d)
    (hb : t.crm.rollBase = s.crm.rollBase) (hv : t.suc = s.suc)
    (h : CallsNoMore s t) (k : CallsNoMore t u) : CallsNoMore s u where
  ends := fun e he => (k.ends e he).elim (h.ends e) .inr
  rollaways := fun r hr => (k.rollaways r hr).elim (h.rollaways r) (fun x => .inr (by simpa [hw, hd, hb, hv] using x))
  peerAlarms := fun n hn => h.peerAlarms n (k.peerAlarms n hn)
  yields := fun n hn => h.yields n (k.yields n hn)
  abortEvent := fun x => h.abortEvent (k.abortEvent x)
  turn := fun x => h.turn (k.turn x)

theorem CallsNoMore.of_eq {s t : State} (h : t.agenda = s.agenda) : CallsNoMore s t where
  ends := fun _ x => .inl (h ▸ x)
  rollaways := fun _ x => .inl (h ▸ x)
  peerAlarms := fun _ x => h ▸ x
  yields := fun _ x => h ▸ x
  abortEvent := fun x => h ▸ x
  turn := fun x => h ▸ x

/-- The agenda is as it was, its marks for the tests of the event itself apart. -/
theorem CallsNoMore.of_agenda {s t : State} (he : t.agenda.ends = s.agenda.ends)
    (hr : t.agenda.rollaways = s.agenda.rollaways) (hp : t.agenda.peerAlarms = s.agenda.peerAlarms)
    (hy : t.agenda.yields = s.agenda.yields) (ha : t.agenda.abortEvent = s.agenda.abortEvent)
    (ht : t.agenda.turn = s.agenda.turn) : CallsNoMore s t where
  ends := fun _ h => .inl (he ▸ h)
  rollaways := fun _ h => .inl (hr ▸ h)
  peerAlarms := fun _ h => hp ▸ h
  yields := fun _ h => hy ▸ h
  abortEvent := fun h => ha ▸ h
  turn := fun h => ht ▸ h

theorem Nearly.refl (s : State) : Nearly s s where
  steady := rfl
  standing := rfl
  alarms := rfl
  stationary := id
  stays := fun h _ => h
  abortPeer := .inl
  sticky := fun _ _ _ => rfl
  overrun := id
  shortfall := .inl
  spring := .inl
  wait := .inl
  status := id
  calls := .refl s

theorem Nearly.trans {s t u : State} (h : Nearly s t) (k : Nearly t u) : Nearly s u where
  steady := k.steady.trans h.steady
  standing := k.standing.trans h.standing
  alarms := k.alarms.trans h.alarms
  stationary := fun x => h.stationary (k.stationary x)
  stays := fun x r => k.stays (h.stays x r) (by rw [rawOf_of_steady h.steady]; exact r)
  abortPeer := fun x => (k.abortPeer x).elim h.abortPeer (fun y => .inr (by rwa [peerAborts_of_steady h.steady] at y))
  sticky := fun f hf hq => (k.sticky f hf hq).trans (h.sticky f hf hq)
  overrun := fun x => k.overrun (h.overrun x)
  shortfall := fun x => (k.shortfall x).elim h.shortfall (fun y => .inr (by rwa [state_of_standing h.standing] at y))
  spring := fun x => (k.spring x).elim h.spring (fun y => .inr (by rwa [state_of_standing h.standing] at y))
  wait := fun x => (k.wait x).elim h.wait (fun y => .inr (by rwa [state_of_standing h.standing] at y))
  status := fun x => k.status (h.status x)
  calls := .trans (watch_of_standing h.standing) (congrArg (fun x => x.crm.d) h.standing)
    (congrArg (fun x => x.crm.rollBase) h.standing) (suc_of_steady h.steady) h.calls k.calls

/-- An operation that writes neither the peer table, the alarm record, the fault set nor the decrease wait. -/
theorem Nearly.of_untouched {s t : State} (hs : Machine.steady t = Machine.steady s) (hst : Machine.standing t = Machine.standing s)
    (hp : t.ptb = s.ptb) (ha : t.alarm = s.alarm) (hf : t.stc.faults = s.stc.faults)
    (hd : t.hpl.decreaseWait = s.hpl.decreaseWait) (hl : s.lnk.statusPending = true → t.lnk.statusPending = true)
    (hc : CallsNoMore s t) : Nearly s t where
  steady := hs
  standing := hst
  alarms := by simp only [unacknowledgedAlarms, peersOf, entryOf, own_of_steady hs, hp, ha]
  stationary := fun h => hp ▸ h
  stays := fun h _ => hp ▸ h
  abortPeer := fun h => .inl (hp ▸ h)
  sticky := fun _ _ _ => by rw [hf]
  overrun := fun h => by rwa [hf]
  shortfall := fun h => .inl (hf ▸ h)
  spring := fun h => .inl (hf ▸ h)
  wait := fun h => .inl (hd ▸ h)
  status := hl
  calls := hc

theorem Quietly.refl (s : State) : Quietly s s := { Nearly.refl s with outfit := rfl, noOverrun := rfl }

theorem Quietly.trans {s t u : State} (h : Quietly s t) (k : Quietly t u) : Quietly s u :=
  { h.toNearly.trans k.toNearly with outfit := k.outfit.trans h.outfit, noOverrun := k.noOverrun.trans h.noOverrun }

theorem Quietly.of_untouched {s t : State} (hs : Machine.steady t = Machine.steady s) (hst : Machine.standing t = Machine.standing s)
    (hp : t.ptb = s.ptb) (ha : t.alarm = s.alarm) (hf : t.stc.faults = s.stc.faults)
    (hd : t.hpl.decreaseWait = s.hpl.decreaseWait) (ho : t.mod.outfit = s.mod.outfit)
    (hl : s.lnk.statusPending = true → t.lnk.statusPending = true)
    (hc : CallsNoMore s t) : Quietly s t :=
  { Nearly.of_untouched hs hst hp ha hf hd hl hc with outfit := ho, noOverrun := by rw [hf] }

/-- A sticky flag is as it was. -/
theorem Quietly.flag {s t : State} (h : Quietly s t) {f : Flag} (hf : f.sticky = true) :
    t.stc.faults.get f = s.stc.faults.get f := by
  by_cases hq : f = .queueOverrun
  · subst hq; exact h.noOverrun
  · exact h.sticky f hf hq

/-! ### The quiet parts, one by one -/

/-- The agenda written again, with no call from outside. -/
theorem quietly_agenda (s : State) (a : Agenda) (h : CallsNoMore s { s with agenda := a }) :
    Quietly s { s with agenda := a } :=
  .of_untouched rfl rfl rfl rfl rfl rfl rfl id h

/-- Bringing the table up to date (R42). -/
theorem quietly_refreshValidity (s : State) : Quietly s (refreshValidity s) :=
  .of_untouched rfl rfl rfl rfl rfl rfl rfl id (.of_agenda rfl rfl rfl rfl rfl rfl)

theorem unacknowledgedAlarms_refreshTable (s : State) :
    unacknowledgedAlarms (refreshTable s) = unacknowledgedAlarms s := by
  refine List.filter_congr (fun n hn => ?_)
  have hne : n ≠ own s := of_decide_eq_true (List.mem_filter.1 hn).2
  have he : entryOf (refreshTable s) n = entryOf s n := Table.get_set_of_ne _ _ hne
  have ha : (refreshTable s).alarm.ackPeers.get n = (s.alarm.ackPeers.get n && (entryOf (refreshTable s) n).showsAlarm) :=
    keptAcknowledged_get _ _ _
  rw [ha, he]
  cases (entryOf s n).showsAlarm <;> simp

theorem rawStationary_set_own (s : State) :
    rawStationary (own s) (s.ptb.entries.set (own s) (ownEntry s)) = rawOf s := by
  unfold rawStationary rawOf
  rw [Table.get_set_self, anyPeer_congr (fun n hn => Table.get_set_of_ne _ _ hn)]
  rfl

theorem abortPeer_refreshTable (s : State) : (refreshTable s).ptb.abortPeer = peerAborts s :=
  anyPeer_congr (fun _ hn => Table.get_set_of_ne _ _ hn) _

theorem vehicleStationary_refreshTable (s : State) :
    (refreshTable s).ptb.vehicleStationary = (s.ptb.vehicleStationary && rawOf s) := by
  rw [← rawStationary_set_own]; rfl

theorem quietly_refreshTable (s : State) : Quietly s (refreshTable s) where
  steady := steady_refreshTable s
  standing := rfl
  alarms := unacknowledgedAlarms_refreshTable s
  stationary := fun h => by
    rw [vehicleStationary_refreshTable] at h
    exact (Bool.and_eq_true_iff.1 h).1
  stays := fun h r => by rw [vehicleStationary_refreshTable, h, r]; rfl
  abortPeer := fun h => .inr (by rwa [abortPeer_refreshTable] at h)
  sticky := fun _ _ _ => rfl
  overrun := id
  outfit := rfl
  noOverrun := rfl
  shortfall := .inl
  spring := .inl
  wait := .inl
  status := id
  calls := .of_agenda rfl rfl rfl rfl rfl rfl

theorem quietly_sync (s : State) : Quietly s (sync s) := (quietly_refreshValidity s).trans (quietly_refreshTable _)

theorem quietly_levels (s : State) : Quietly s (levels s) :=
  .of_untouched rfl rfl rfl rfl rfl rfl rfl id
    { ends := by simp
      rollaways := by simp
      peerAlarms := by simp
      yields := by simp
      abortEvent := by simp
      turn := by simp }

theorem quietly_callStatusIf (b : Bool) (s : State) : Quietly s (callStatusIf b s) := by
  cases b
  · exact .refl s
  · exact .of_untouched rfl rfl rfl rfl rfl rfl rfl (fun _ => rfl) (.of_eq rfl)

/-- A current condition set or cleared where the state has it (R52, R65). -/
theorem quietly_putShortfall (b : Bool) (s : State) (h : s.stc.state.sharing = true) :
    Quietly s (putFault .shortfall b s) where
  steady := rfl
  standing := rfl
  alarms := rfl
  stationary := id
  stays := fun h _ => h
  abortPeer := .inl
  sticky := fun f hf _ => FaultSet.get_put_of_ne _ _ (by rintro rfl; cases hf)
  overrun := id
  outfit := rfl
  noOverrun := rfl
  shortfall := fun _ => .inr h
  spring := .inl
  wait := .inl
  status := id
  calls := .of_agenda rfl rfl rfl rfl rfl rfl

theorem quietly_putSpringShortfall (b : Bool) (s : State) (h : s.stc.state = .secured) :
    Quietly s (putFault .springShortfall b s) where
  steady := rfl
  standing := rfl
  alarms := rfl
  stationary := id
  stays := fun h _ => h
  abortPeer := .inl
  sticky := fun f hf _ => FaultSet.get_put_of_ne _ _ (by rintro rfl; cases hf)
  overrun := id
  outfit := rfl
  noOverrun := rfl
  shortfall := .inl
  spring := fun _ => .inr h
  wait := .inl
  status := id
  calls := .of_agenda rfl rfl rfl rfl rfl rfl

theorem quietly_currentConditions (s : State) : Quietly s (currentConditions s) := by
  have spring (u : State) : Quietly u (if u.stc.state = .secured then
      putFault .springShortfall (decide (u.hpl.springCapacity < u.hpl.fReq)) u else u) := by
    split
    · exact quietly_putSpringShortfall _ _ ‹_›
    · exact .refl _
  have shortfall : Quietly s (if s.stc.state.sharing then putFault .shortfall (shortfallFound s s.hpl) s else s) := by
    split
    · exact quietly_putShortfall _ _ ‹_›
    · exact .refl _
  exact shortfall.trans (spring _)

/-- What a computation keeps of the plan record. -/
structure PlanKept where
  planLock : Bool
  decreaseWait : Option DecreaseWait
  lastSubmitted : Nat
  limited : Bool
  bestAchieved : Nat
  limitTimer : Timer

/-- The part of the plan record that no computation writes. -/
def Plan.kept (p : Plan) : PlanKept :=
  { planLock := p.planLock, decreaseWait := p.decreaseWait, lastSubmitted := p.lastSubmitted, limited := p.limited,
    bestAchieved := p.bestAchieved, limitTimer := p.limitTimer }

theorem kept_fullPlan (s : State) (a : AxleParams) : (fullPlan s a).kept = s.hpl.kept := by
  unfold fullPlan springStage shareStage
  split <;> split <;> rfl

theorem kept_computedPlan (s : State) : (computedPlan s).kept = s.hpl.kept := by
  have hf : ((s.suc.axle.map (fullPlan s)).getD s.hpl).kept = s.hpl.kept := by
    cases s.suc.axle
    · rfl
    · exact kept_fullPlan _ _
  have ha : ((s.suc.axle.map (fun a => achievedStage s a s.hpl)).getD s.hpl).kept = s.hpl.kept := by
    cases s.suc.axle <;> rfl
  have ho : (outsidePlan s).kept = s.hpl.kept := by unfold outsidePlan; dsimp only; split <;> rfl
  unfold computedPlan
  split <;> first | exact ho | exact hf | exact ha | rfl

theorem quietly_computedPlan (s : State) : Quietly s { s with hpl := computedPlan s } := by
  have hk := kept_computedPlan s
  refine .of_untouched rfl ?_ rfl rfl rfl (congrArg PlanKept.decreaseWait hk) rfl id (.of_eq rfl)
  simp only [standing, show (computedPlan s).planLock = s.hpl.planLock from congrArg PlanKept.planLock hk]

theorem quietly_compute (s : State) : Quietly s (compute s) :=
  ((quietly_computedPlan s).trans (quietly_currentConditions _)).trans (quietly_callStatusIf _ _)

theorem quietly_comparePlausibility (s : State) : Quietly s (comparePlausibility s) :=
  .of_untouched rfl rfl rfl rfl rfl rfl rfl id (.of_eq rfl)

theorem Crm.travel_le (c : Crm) : c.travel ≤ (c.d - c.rollBase).natAbs := by
  unfold Crm.travel downhillTravel
  split <;> omega

theorem quietly_formDownhill (s : State) : Quietly s (formDownhill s) := by
  unfold formDownhill
  dsimp only
  split
  · exact .refl s
  · unfold rollawayTest
    split
    · rename_i h
      have h2 := (Bool.and_eq_true_iff.1 h)
      have h3 := of_decide_eq_true h2.2
      refine .of_untouched rfl rfl rfl rfl rfl rfl rfl id
        { CallsNoMore.refl s with
          rollaways := fun r hr => ?_ }
      exact .inr ⟨h2.1, h3.trans (Crm.travel_le _)⟩
    · exact .of_untouched rfl rfl rfl rfl rfl rfl rfl id (.of_agenda rfl rfl rfl rfl rfl rfl)

end Sys2Proof.Machine
end

section
/-! PROOFS. The quiet parts of an event that pass through MOD, and the computation of a plan event as a whole. -/

namespace Sys2Proof.Machine

set_option Elab.async false

/-! ### What the step queue leaves alone -/

@[simp] theorem Mod.outfit_commandValves (m : Mod) : m.commandValves.outfit = m.outfit := rfl
@[simp] theorem Mod.outfit_beginStep (st : Step) (m : Mod) : (m.beginStep st).outfit = m.outfit := rfl

@[simp] theorem Mod.outfit_startNext (m : Mod) : m.startNext.outfit = m.outfit := by
  unfold Mod.startNext; split <;> rfl

@[simp] theorem Mod.outfit_placePlanner (st : Step) (m : Mod) : (m.placePlanner st).mod.outfit = m.outfit := by
  unfold Mod.placePlanner
  split
  · rfl
  · split <;> rfl

@[simp] theorem Mod.outfit_placeBehind (l : List Step) (m : Mod) : (m.placeBehind l).mod.outfit = m.outfit := by
  unfold Mod.placeBehind
  split
  · exact Mod.outfit_startNext _
  · rfl

@[simp] theorem Mod.outfit_append (p : Nat) (x : Source) (l : List Step) (m : Mod) :
    (m.append p x l).mod.outfit = m.outfit := by
  unfold Mod.append
  split
  · split <;> simp
  · rfl

@[simp] theorem Mod.outfit_moveOn (f : InFlight) (m : Mod) : (m.moveOn f).outfit = m.outfit := by
  unfold Mod.moveOn
  exact Mod.outfit_startNext _

@[simp] theorem Mod.outfit_evaluate (m : Mod) : m.evaluate.mod.outfit = m.outfit := by
  unfold Mod.evaluate
  split
  · rfl
  · dsimp only
    split
    · split
      · rfl
      · exact Mod.outfit_moveOn _ _
    · split
      · exact Mod.outfit_moveOn _ _
      · rfl

@[simp] theorem Mod.outfit_faultStep (m : Mod) : m.faultStep.mod.outfit = m.outfit := by
  unfold Mod.faultStep; split <;> rfl

/-- A join change writes the join alone of the outfit. -/
theorem Mod.outfit_joinTo (j : Join) (m : Mod) : (m.joinTo j).mod.outfit = { m.outfit with join := j } := by
  unfold Mod.joinTo
  split
  · rename_i h; subst h; rfl
  · rfl

/-- A join change supersedes the step in flight and raises nothing (R74). -/
theorem Mod.joinTo_ended (j : Join) (m : Mod) :
    (∀ e, (m.joinTo j).ended = some e → e.outcome = .superseded) ∧ (m.joinTo j).overrun = false := by
  unfold Mod.joinTo
  split
  · simp
  · refine ⟨fun e he => ?_, rfl⟩
    obtain ⟨f, -, rfl⟩ := Option.map_eq_some_iff.1 he
    rfl

/-- An append supersedes a step at most (R76). -/
theorem Mod.append_ended (p : Nat) (x : Source) (l : List Step) (m : Mod) (e : StepEnd)
    (h : (m.append p x l).ended = some e) : e.outcome = .superseded := by
  have behind (sts : List Step) : (m.placeBehind sts).ended = none := by unfold Mod.placeBehind; split <;> rfl
  unfold Mod.append at h
  split at h
  · split at h
    · unfold Mod.placePlanner at h
      split at h
      · cases h
      · split at h <;> cases h
        rfl
    · rw [behind] at h; cases h
  · cases h

/-- A PLANNER step of its own never overruns the queue (R76). -/
theorem Mod.append_planner_overrun (p : Nat) (st : Step) (m : Mod) : (m.append p .planner [st]).overrun = false := by
  unfold Mod.append
  split
  · simp only [List.map_cons, List.map_nil]
    unfold Mod.placePlanner
    split
    · rfl
    · split <;> rfl
  · rfl

/-! ### A result of MOD taken into the state -/

@[simp] theorem takeModResult_mod (r : ModResult) (s : State) : (takeModResult r s).mod = r.mod := by
  unfold takeModResult; dsimp only; split <;> split <;> rfl

/-- A result that ends no step but SUPERSEDED raises QUEUE_OVERRUN at most, and that where it overran. -/
theorem takeModResult_superseded (r : ModResult) (s : State) (he : ∀ e, r.ended = some e → e.outcome = .superseded) :
    takeModResult r s
      = (if r.overrun then raiseFault .queueOverrun else id)
          { s with mod := r.mod, agenda := { s.agenda with ends := s.agenda.ends ++ r.ended.toList } } := by
  have hu : r.ended.map StepEnd.outcome ≠ some .unreached := by
    intro h
    obtain ⟨e, h1, h2⟩ := Option.map_eq_some_iff.1 h
    simp [he e h1] at h2
  simp only [takeModResult, hu, if_false]
  split <;> rfl

theorem calls_takeModResult (r : ModResult) (s : State) (he : ∀ e, r.ended = some e → e.outcome = .superseded) :
    CallsNoMore s (takeModResult r s) := by
  rw [takeModResult_superseded r s he]
  cases r.overrun <;> exact
    { CallsNoMore.refl s with ends := fun e h => (List.mem_append.1 h).imp id (fun h => he e (by simpa using h)) }

/-- A result that ends no step but SUPERSEDED takes no transition. -/
theorem nearly_takeModResult (r : ModResult) (s : State) (hm : r.mod.sensed = s.mod.sensed)
    (he : ∀ e, r.ended = some e → e.outcome = .superseded) : Nearly s (takeModResult r s) := by
  have hs := steady_takeModResult r s hm
  have hc := calls_takeModResult r s he
  rw [takeModResult_superseded r s he] at hs hc ⊢
  cases hv : r.overrun <;> rw [hv] at hs hc
  · exact .of_untouched hs rfl rfl rfl rfl rfl id hc
  · exact
      { Nearly.refl s with
        steady := hs
        sticky := fun f _ hq => FaultSet.get_put_of_ne _ _ hq
        overrun := fun _ => rfl
        calls := hc }

/-- It is quiet where it keeps the outfit and overruns nothing. -/
theorem quietly_takeModResult (r : ModResult) (s : State) (hm : r.mod.sensed = s.mod.sensed)
    (ho : r.mod.outfit = s.mod.outfit) (he : ∀ e, r.ended = some e → e.outcome = .superseded)
    (hv : r.overrun = false) : Quietly s (takeModResult r s) :=
  { nearly_takeModResult r s hm he with
    outfit := by rw [takeModResult_mod, ho]
    noOverrun := by rw [takeModResult_superseded r s he, hv]; rfl }

/-- A join change (R74). -/
theorem nearly_joinTo (j : Join) (s : State) : Nearly s (joinTo j s) := by
  have h : Nearly s { s with hpl := { s.hpl with limitTimer := if j = s.mod.join then s.hpl.limitTimer else none } } :=
    .of_untouched rfl rfl rfl rfl rfl rfl id (.of_eq rfl)
  exact h.trans (nearly_takeModResult _ _ (by simp) (Mod.joinTo_ended j s.mod).1)

/-- An append (R75). -/
theorem nearly_appendSteps (x : Source) (l : List Step) (s : State) : Nearly s (appendSteps x l s) :=
  nearly_takeModResult _ _ (by simp) (fun e h => Mod.append_ended _ _ _ _ e h)

/-- An order to the park valve (R86). -/
theorem nearly_orderPark (b : Bool) (s : State) : Nearly s (orderPark b s) :=
  .of_untouched (steady_orderPark b s) rfl rfl rfl rfl rfl id (.of_agenda rfl rfl rfl rfl rfl rfl)

/-! ### Submission, the plan event and the ends of steps -/

theorem quietly_submitTarget (s : State) (h : s.stc.state = .holding ∨ s.stc.state = .secured) :
    Quietly s (submitTarget s) := by
  have h1 : Quietly s { s with hpl := { s.hpl with lastSubmitted := s.hpl.pT, decreaseWait := none } } :=
    { Quietly.refl s with wait := fun _ => .inr h, calls := .of_eq rfl }
  exact h1.trans (quietly_takeModResult _ _ (by simp) (by simp) (fun e he => Mod.append_ended _ _ _ _ e he)
    (Mod.append_planner_overrun _ _ _))

theorem quietly_submissionDecision (b : Bool) (s : State) : Quietly s (submissionDecision b s) := by
  unfold submissionDecision
  split
  · rename_i h
    have h2 : s.stc.state = .holding ∨ s.stc.state = .secured := by simpa using h
    split
    · exact quietly_submitTarget s h2
    · exact { Quietly.refl s with wait := fun _ => .inr h2, calls := .of_eq rfl }
  · exact .refl s

/-- A plan event (R53). -/
theorem quietly_planEvent (b : Bool) (s : State) : Quietly s (planEvent b s) := by
  have h1 : Quietly s (compute (comparePlausibility s)) :=
    (quietly_comparePlausibility s).trans (quietly_compute _)
  have h2 (u : State) : Quietly u { u with hoe := { u.hoe with planPending := u.hoe.planPending && !fullState u.stc.state } } :=
    .of_untouched rfl rfl rfl rfl rfl rfl rfl id (.of_eq rfl)
  have h3 (u : State) : Quietly u { u with agenda := { u.agenda with exits := true, success := true, answers := true } } :=
    quietly_agenda _ _ (.of_agenda rfl rfl rfl rfl rfl rfl)
  unfold planEvent
  exact (((h1.trans (h2 _)).trans (quietly_formDownhill _)).trans (h3 _)).trans (quietly_submissionDecision _ _)

/-- LIMITED is set (R64). -/
theorem quietly_setLimited (b : Nat) (s : State) : Quietly s (setLimited b s) := by
  have h : Quietly s { s with hpl := { s.hpl with limited := true, bestAchieved := b, limitTimer := none } } :=
    .of_untouched rfl rfl rfl rfl rfl rfl rfl id (.of_eq rfl)
  exact h.trans (quietly_callStatusIf _ _)

/-- HPL takes the end of a step (R64). -/
theorem quietly_limitedByEnd (e : StepEnd) (s : State) : Quietly s (limitedByEnd e s) := by
  have set (b : Nat) : Quietly s (setLimited b s) := quietly_setLimited b s
  have clear : Quietly s (clearLimited s) := by
    have h : Quietly s { s with hpl := { s.hpl with limited := false } } :=
      .of_untouched rfl rfl rfl rfl rfl rfl rfl id (.of_eq rfl)
    exact h.trans (quietly_callStatusIf _ _)
  unfold limitedByEnd
  split
  · exact set _
  · split
    · exact clear
    · exact .refl s
  · exact .refl s
  · exact .refl s

theorem quietly_reformAnswer (s : State) (n : StationNo) : Quietly s (reformAnswer s n) := by
  unfold reformAnswer
  split
  · split
    · exact .refl s
    · exact .of_untouched rfl rfl rfl rfl rfl rfl rfl id (.of_eq rfl)
  · exact .refl s

/-- The answers to the leavers formed again (R119). -/
theorem quietly_reformAnswers (s : State) : Quietly s (reformAnswers s) := by
  have h (l : List StationNo) (u : State) : Quietly u (l.foldl reformAnswer u) := by
    induction l generalizing u with
    | nil => exact .refl u
    | cons n l ih => exact (quietly_reformAnswer u n).trans (ih _)
  exact h _ s

theorem quietly_setPlanPending (s : State) : Quietly s (setPlanPending s) := by
  unfold setPlanPending
  split
  · exact .refl s
  · have h : Quietly s { s with hoe := { s.hoe with planPending := true } } :=
      .of_untouched rfl rfl rfl rfl rfl rfl rfl id (.of_eq rfl)
    exact h.trans (quietly_reformAnswers _)

end Sys2Proof.Machine
end

section
/-! PROOFS. What the reports of an event can do, said once: transitions (`Hop`), and the acts of a report (`Act`), a chain of
transitions with its outputs among them. Every report, and so every settling, is a run of acts (`report_acts`,
`settle_acts`). -/

namespace Sys2Proof.Machine

set_option Elab.async false

/-! ### Transitions -/

/-- The state an aborted release is left in, before the chain of R3 (R132). -/
def abortedBy (why : AbortReason) (s : State) : State :=
  enterState .holding (countCreep { s with rsq := s.rsq.abort why })

/-- The state a hand-off ramp is left in, before the chain of R3 (R15, R111). -/
def rampOver (s : State) : State :=
  let s1 : State := { s with hoe := { s.hoe with phase := .idle, replies := Table.fill none } }
  match s1.stc.leaveReason with
  | some .inhibit => enterState .service s1
  | _ =>
    let s2 := enterState .free s1
    { s2 with stc := { s2.stc with lifted := true, loweringTimer := none } }

/-- The state a completed release is left in, before the re-hold and the chain of R3 (R127). -/
def released (s : State) : State :=
  let s1 := enterState .free s
  followLift { s1 with rsq := s1.rsq.complete s1.now }

theorem abortRelease_eq (why : AbortReason) (s : State) : abortRelease why s = afterMove (abortedBy why s) := rfl

theorem endHandoffRamp_eq (s : State) : endHandoffRamp s = afterMove (rampOver s) := by
  rcases h : s.stc.leaveReason with _ | _ | _ <;> simp only [endHandoffRamp, rampOver, moveTo, h]

theorem completeRelease_eq (s : State) :
    completeRelease s = afterMove (if reholds (released s) then rehold (released s) else released s) := rfl

/-- One transition, or what STC does with a cause, before the outputs follow. -/
inductive Hop (s : State) : State → Prop
  | goto (t : StationState) (h : exitMove s = some (.goto t)) : Hop s (enterState t s)
  | peerShows (n : StationNo) (h : exitMove s = some (.peerAlarm n)) : Hop s (takeAlarmCause (peerCause n) s)
  | peerAlarm (n : StationNo) (rest : List StationNo) (h : s.agenda.peerAlarms = n :: rest)
      (ha : s.stc.state.alarmable = true) : Hop s (takeAlarmCause (peerCause n) { s with agenda := { s.agenda with peerAlarms := rest } })
  | rollaway (r : Rollaway) (rest : List Rollaway) (h : s.agenda.rollaways = r :: rest)
      (ha : s.stc.state.alarmable = true) : Hop s (takeRollaway r { s with agenda := { s.agenda with rollaways := rest } })
  | exchange (h : exitMove s = some .exchange) : Hop s (startExchange s)
  | withdraw (h : exitMove s = some .withdraw) : Hop s (cancelExchange .idle s)
  | yield (m : StationNo) (rest : List StationNo) (hm : s.agenda.yields = m :: rest) (h : exchanging s = true) :
      Hop s (yieldExchange { s with agenda := { s.agenda with yields := rest } })
  | unparked (e : StepEnd) (rest : List StepEnd) (he : s.agenda.ends = e :: rest) (ho : e.outcome = .reached)
      (h : s.stc.state = .secured) : Hop s (enterState .holding { s with agenda := { s.agenda with ends := rest } })
  | rampOver (h : s.stc.state = .leaving) (hp : s.hoe.phase = .ramp) (he : rampEnded s.hoe.rampSteps s = true) :
      Hop s (rampOver s)
  | released (h : s.stc.state = .releasing) (hp : s.rsq.phase = .ramping) (he : rampEnded s.rsq.rampSteps s = true) :
      Hop s (released s)
  | reheldAtOnce (h : s.stc.state = .releasing) (hp : s.rsq.phase = .ramping) (he : rampEnded s.rsq.rampSteps s = true)
      (hr : reholds (Machine.released s) = true) : Hop s (rehold (Machine.released s))
  | reheld (ha : s.agenda.abortEvent = true) (hr : reholds s = true) :
      Hop s (rehold { s with agenda := { s.agenda with abortEvent := false } })
  | aborted (why : AbortReason) (h : releaseInProgress s = true) (hw : rollsBack s = true ∨ s.ptb.abortPeer = true) :
      Hop s (abortedBy why s)
  | abortedByPeer (ha : s.agenda.abortEvent = true) (h : releaseInProgress s = true) :
      Hop s (abortedBy .peer { s with agenda := { s.agenda with abortEvent := false } })

/-- Transitions in a row, the LIFTED flag following its lift bit between them (R16). -/
abbrev Hops : State → State → Prop := Relation.ReflTransGen (fun s t => Hop s t ∨ t = followLift s)

/-- A move found at a test of the exits is a transition. -/
theorem hop_applyMove {s : State} {m : Move} (h : exitMove s = some m) : Hop s (applyMove m s) := by
  cases m with
  | goto t => exact .goto t h
  | peerAlarm n => exact .peerShows n h
  | exchange => exact .exchange h
  | withdraw => exact .withdraw h

/-- The chain of R3 is a run of transitions. -/
theorem hops_chain (n : Nat) (s : State) : Hops s (chain n s) := by
  induction n generalizing s with
  | zero => exact .refl
  | succ n ih =>
    unfold chain
    split
    · rename_i m h
      exact .head (.inr rfl) (.head (.inl (hop_applyMove h)) (ih _))
    · exact .single (.inr rfl)

/-! ### Acts -/

/-- What a report writes beside transitions: the hand-off and un-park marks, the counted ends of a ramp's steps, an alarm cause
that is only counted, and the phases of a turn and of a success. -/
inductive Minor (s : State) : State → Prop
  | tendHandoff : Minor s (tendHandoff s)
  | deferAsk : Minor s (deferAsk s)
  | testUnpark : Minor s (testUnpark s)
  | unparkUnreached (e : StepEnd) (he : e ∈ s.agenda.ends) (ho : e.outcome = .unreached) (h : s.stc.state = .secured) :
      Minor s (markUnpark false { s with stc := { s.stc with unparkSpent := true } })
  | countRampStep (e : StepEnd) (he : e ∈ s.agenda.ends) : Minor s (countRampStep e s)
  | counted (h : s.agenda.rollaways ≠ [] ∨ s.agenda.peerAlarms ≠ []) : Minor s (countAlarm s)
  | turn (ha : s.agenda.turn = true) (h : s.stc.state = .releasing) (hp : s.rsq.phase = .waitingTurn) :
      Minor s { s with rsq := s.rsq.takeTurn, agenda := { s.agenda with turn := false } }
  | succeed (h : exchanging s = true) (hs : exchangeSucceeds s = true) :
      Minor s { s with hoe := { s.hoe with phase := .ramp, attemptTimer := none, rampSteps := 0 } }

/-- One act of a report. -/
inductive Act (s : State) : State → Prop
  | quiet {t : State} (h : Quietly s t) : Act s t
  | followLift : Act s (followLift s)
  | minor {t : State} (h : Minor s t) (hr : t.hoe.phase = .ramp → s.hoe.phase = .ramp) : Act s t
  | ventService (h : s.stc.state = .service) : Act s (joinTo .idleVent s)
  | turn (ha : s.agenda.turn = true) (h : s.stc.state = .releasing) (hp : s.rsq.phase = .waitingTurn) :
      Act s (takeTurn { s with agenda := { s.agenda with turn := false } })
  | succeed (h : exchanging s = true) (hs : exchangeSucceeds s = true) : Act s (succeed s)
  | moved {u v : State} (h : Hop s u) (r : Hops u v) : Act s (outputs v)

/-- Acts in a row. -/
abbrev Acts : State → State → Prop := Relation.ReflTransGen Act

theorem acts_one {s t : State} (h : Act s t) : Acts s t := .single h

theorem acts_quiet {s t : State} (h : Quietly s t) : Acts s t := .single (.quiet h)

/-- A transition, then the chain of R3 and the outputs. -/
theorem act_afterMove {s u : State} (h : Hop s u) : Act s (afterMove u) := .moved h (hops_chain _ _)

/-! ### Every report is a run of acts -/

theorem quietly_popEnds (s : State) (e : StepEnd) (rest : List StepEnd) (h : s.agenda.ends = e :: rest) :
    Quietly s { s with agenda := { s.agenda with ends := rest } } :=
  quietly_agenda _ _ { CallsNoMore.refl s with ends := fun x hx => .inl (by rw [h]; exact List.mem_cons_of_mem _ hx) }

theorem quietly_popRollaways (s : State) (r : Rollaway) (rest : List Rollaway) (h : s.agenda.rollaways = r :: rest) :
    Quietly s { s with agenda := { s.agenda with rollaways := rest } } :=
  quietly_agenda _ _
    { CallsNoMore.refl s with rollaways := fun x hx => .inl (by rw [h]; exact List.mem_cons_of_mem _ hx) }

theorem quietly_popPeerAlarms (s : State) (n : StationNo) (rest : List StationNo) (h : s.agenda.peerAlarms = n :: rest) :
    Quietly s { s with agenda := { s.agenda with peerAlarms := rest } } :=
  quietly_agenda _ _
    { CallsNoMore.refl s with peerAlarms := fun x hx => by rw [h]; exact List.mem_cons_of_mem _ hx }

theorem quietly_popYields (s : State) (n : StationNo) (rest : List StationNo) (h : s.agenda.yields = n :: rest) :
    Quietly s { s with agenda := { s.agenda with yields := rest } } :=
  quietly_agenda _ _
    { CallsNoMore.refl s with yields := fun x hx => by rw [h]; exact List.mem_cons_of_mem _ hx }

theorem quietly_popAbortEvent (s : State) :
    Quietly s { s with agenda := { s.agenda with abortEvent := false } } :=
  quietly_agenda _ _ { CallsNoMore.refl s with abortEvent := fun h => by simp at h }

theorem quietly_popTurn (s : State) : Quietly s { s with agenda := { s.agenda with turn := false } } :=
  quietly_agenda _ _ { CallsNoMore.refl s with turn := fun h => by simp at h }

/-- The tests of the exits that take no transition (R11, R16, R18, R105, R113). -/
theorem acts_testExits (s : State) : Acts s (testExits s) := by
  have h1 : Acts s (tendHandoff (followLift s)) := .head .followLift (acts_one (.minor .tendHandoff (by simp only [tendHandoff]; split <;> simp)))
  have service (u : State) : Acts u (testService u) := by
    unfold testService
    split
    · rename_i h
      have h2 : u.stc.state = .service := by simp only [Bool.and_eq_true, decide_eq_true_eq] at h; exact h.1.1
      exact acts_one (.ventService h2)
    · exact .refl
  refine h1.trans ?_
  unfold testExits
  dsimp only
  split
  · exact acts_one (act_afterMove (hop_applyMove ‹_›))
  · have hd (u : State) : (deferAsk u).hoe.phase = .ramp → u.hoe.phase = .ramp := by
      unfold deferAsk; split <;> simp
    have hu (u : State) : (testUnpark u).hoe = u.hoe := by unfold testUnpark; dsimp only; (repeat' split) <;> rfl
    exact .head (.minor .deferAsk (hd _)) (.head (.minor .testUnpark (fun h => by rwa [hu] at h)) (service _))

/-- What HPL, HOE and RSQ do with the end of a step, before STC takes it (R85). -/
def noteEnd (e : StepEnd) (s : State) : State :=
  askPlan (askExits (askAnswers (askRamp (countRampStep e (limitedByEnd e s)))))

theorem takeEnd_eq (e : StepEnd) (s : State) : takeEnd e s = takeUnparkEnd e (noteEnd e s) := rfl

theorem limitedByEnd_agenda (e : StepEnd) (s : State) (a : Agenda) :
    limitedByEnd e { s with agenda := a } = { limitedByEnd e s with agenda := a }
      ∧ (limitedByEnd e s).agenda = s.agenda := by
  unfold limitedByEnd setLimited clearLimited callStatusIf
  dsimp only
  (repeat' split) <;> exact ⟨rfl, rfl⟩

/-- The end may be taken off the agenda after HPL, HOE and RSQ have taken it. -/
theorem noteEnd_pop (e : StepEnd) (rest : List StepEnd) (s : State) :
    noteEnd e { s with agenda := { s.agenda with ends := rest } }
      = { noteEnd e s with agenda := { (noteEnd e s).agenda with ends := rest } } := by
  obtain ⟨h1, h2⟩ := limitedByEnd_agenda e s { s.agenda with ends := rest }
  unfold noteEnd
  rw [h1]
  simp only [askPlan, askExits, askAnswers, askRamp, countRampStep, h2]

theorem ends_noteEnd (e : StepEnd) (s : State) : (noteEnd e s).agenda.ends = s.agenda.ends := by
  show (limitedByEnd e s).agenda.ends = _
  rw [(limitedByEnd_agenda e s {}).2]

theorem acts_noteEnd {e : StepEnd} {s : State} (h : e ∈ s.agenda.ends) : Acts s (noteEnd e s) := by
  have ask (u : State) : Quietly u (askPlan (askExits (askAnswers (askRamp u)))) :=
    quietly_agenda _ _ (.of_agenda rfl rfl rfl rfl rfl rfl)
  have he : e ∈ (limitedByEnd e s).agenda.ends := by rwa [(limitedByEnd_agenda e s {}).2]
  exact .head (.quiet (quietly_limitedByEnd e s)) (.head (.minor (.countRampStep e he) id) (acts_quiet (ask _)))

/-- STC takes the end of a step (R12). -/
theorem acts_takeUnparkEnd {e : StepEnd} {rest : List StepEnd} {s : State} (h : s.agenda.ends = e :: rest) :
    Acts s (takeUnparkEnd e { s with agenda := { s.agenda with ends := rest } }) := by
  unfold takeUnparkEnd
  split
  · rename_i hc
    have hs : s.stc.state = .secured := by simp only [Bool.and_eq_true, decide_eq_true_eq] at hc; exact hc.1.1.1
    split
    · exact acts_one (act_afterMove (.unparked e rest h ‹_› hs))
    · have hm : Minor s _ := .unparkUnreached e (by rw [h]; exact List.mem_cons_self) ‹_› hs
      exact .head (.minor hm id) (acts_quiet (quietly_popEnds _ e rest h))
    · exact acts_quiet (quietly_popEnds s e rest h)
    · exact acts_quiet (quietly_popEnds s e rest h)
  · exact acts_quiet (quietly_popEnds s e rest h)

theorem acts_takeEnd {e : StepEnd} {rest : List StepEnd} {s : State} (h : s.agenda.ends = e :: rest) :
    Acts s (takeEnd e { s with agenda := { s.agenda with ends := rest } }) := by
  rw [takeEnd_eq, noteEnd_pop]
  exact (acts_noteEnd (by rw [h]; exact List.mem_cons_self)).trans
    (acts_takeUnparkEnd ((ends_noteEnd e s).trans h))

theorem acts_takePeerAlarm {n : StationNo} {rest : List StationNo} {s : State} (h : s.agenda.peerAlarms = n :: rest) :
    Acts s (takePeerAlarm n { s with agenda := { s.agenda with peerAlarms := rest } }) := by
  unfold takePeerAlarm
  dsimp only
  split
  · exact acts_one (act_afterMove (.peerAlarm n rest h ‹_›))
  · rename_i ha
    rw [show takeAlarmCause (peerCause n) { s with agenda := { s.agenda with peerAlarms := rest } }
      = countAlarm { s with agenda := { s.agenda with peerAlarms := rest } } from if_neg ha]
    exact .head (.minor (.counted (.inr (by simp [h]))) id) (acts_quiet (quietly_popPeerAlarms (countAlarm s) n rest h))

theorem acts_takeOwnRollaway {r : Rollaway} {rest : List Rollaway} {s : State} (h : s.agenda.rollaways = r :: rest) :
    Acts s (takeOwnRollaway r { s with agenda := { s.agenda with rollaways := rest } }) := by
  unfold takeOwnRollaway
  dsimp only
  split
  · exact acts_one (act_afterMove (.rollaway r rest h ‹_›))
  · rename_i ha
    rw [show takeRollaway r { s with agenda := { s.agenda with rollaways := rest } }
      = countAlarm { s with agenda := { s.agenda with rollaways := rest } } from if_neg ha]
    exact .head (.minor (.counted (.inl (by simp [h]))) id) (acts_quiet (quietly_popRollaways (countAlarm s) r rest h))

theorem acts_testAbort (s : State) : Acts s (testAbort s) := by
  unfold testAbort
  split
  · rename_i h
    split
    · exact acts_one (act_afterMove (.aborted _ h (.inl ‹_›)))
    · split
      · exact acts_one (act_afterMove (.aborted _ h (.inr ‹_›)))
      · exact .refl
  · exact .refl

theorem acts_takeAbortEvent (s : State) (h : s.agenda.abortEvent = true) :
    Acts s (takeAbortEvent { s with agenda := { s.agenda with abortEvent := false } }) := by
  unfold takeAbortEvent
  split
  · rename_i hr
    exact acts_one (act_afterMove (.abortedByPeer h hr))
  · split
    · rename_i hr
      exact acts_one (act_afterMove (.reheld h hr))
    · exact acts_quiet (quietly_popAbortEvent s)

theorem acts_testYield {m : StationNo} {rest : List StationNo} {s : State} (h : s.agenda.yields = m :: rest) :
    Acts s (testYield m { s with agenda := { s.agenda with yields := rest } }) := by
  unfold testYield
  split
  · rename_i hx
    exact acts_one (act_afterMove (.yield m rest h (Bool.and_eq_true_iff.1 hx).1))
  · exact acts_quiet (quietly_popYields s m rest h)

theorem acts_testTurn (s : State) (h : s.agenda.turn = true) :
    Acts s (testTurn { s with agenda := { s.agenda with turn := false } }) := by
  unfold testTurn
  split
  · rename_i hc
    simp only [Bool.and_eq_true, decide_eq_true_eq] at hc
    exact acts_one (.turn h hc.1.1 hc.1.2)
  · exact acts_quiet (quietly_popTurn s)

theorem acts_testRamp (s : State) : Acts s (testRamp s) := by
  unfold testRamp
  split
  · rename_i h
    simp only [Bool.and_eq_true, decide_eq_true_eq] at h
    rw [endHandoffRamp_eq]
    exact acts_one (act_afterMove (.rampOver h.1.1 h.1.2 h.2))
  · split
    · rename_i h
      simp only [Bool.and_eq_true, decide_eq_true_eq] at h
      rw [completeRelease_eq]
      refine acts_one (act_afterMove ?_)
      split
      · exact .reheldAtOnce h.1.1 h.1.2 h.2 ‹_›
      · exact .released h.1.1 h.1.2 h.2
    · exact .refl

theorem acts_testSuccess (s : State) : Acts s (testSuccess s) := by
  unfold testSuccess
  split
  · rename_i h
    exact acts_one (.succeed (Bool.and_eq_true_iff.1 h).1 (Bool.and_eq_true_iff.1 h).2)
  · exact .refl

/-- A report is a run of acts. -/
theorem report_acts {s t : State} (h : Report s t) : Acts s t := by
  have pop (u : State) (a : Agenda) (hc : CallsNoMore u { u with agenda := a }) : Acts u { u with agenda := a } :=
    acts_quiet (quietly_agenda u a hc)
  cases h with
  | stepEnd e rest h => exact acts_takeEnd h
  | rollaway r rest h => exact acts_takeOwnRollaway h
  | peerAlarm n rest h => exact acts_takePeerAlarm h
  | abortEvent h => exact acts_takeAbortEvent s h
  | yield m rest h => exact acts_testYield h
  | exits h => exact (pop s { s.agenda with exits := false } (.of_agenda rfl rfl rfl rfl rfl rfl)).trans (acts_testExits _)
  | plan h => exact (pop s { s.agenda with plan := false, force := false } (.of_agenda rfl rfl rfl rfl rfl rfl)).trans (acts_quiet (quietly_planEvent _ _))
  | abortTest h => exact (pop s { s.agenda with abortTest := false } (.of_agenda rfl rfl rfl rfl rfl rfl)).trans (acts_testAbort _)
  | turn h => exact acts_testTurn s h
  | ramp h => exact (pop s { s.agenda with ramp := false } (.of_agenda rfl rfl rfl rfl rfl rfl)).trans (acts_testRamp _)
  | success h => exact (pop s { s.agenda with success := false } (.of_agenda rfl rfl rfl rfl rfl rfl)).trans (acts_testSuccess _)
  | answers h => exact (pop s { s.agenda with answers := false } (.of_agenda rfl rfl rfl rfl rfl rfl)).trans (acts_quiet (quietly_reformAnswers _))

/-- Settling is a run of acts. -/
theorem settle_acts (s : State) : Acts s (settle s) :=
  settle_induction (P := Acts s) (fun t h => h.trans (acts_quiet (quietly_sync t)))
    (fun _ _ h r => h.trans (report_acts r)) (fun t h => h.trans (acts_quiet (quietly_levels t))) .refl

/-- What every act keeps, settling keeps. -/
theorem settle_of_acts {P : State → Prop} (hP : ∀ s t, P s → Act s t → P t) {s : State} (h : P s) : P (settle s) := by
  have run {t : State} (r : Acts s t) : P t := by
    induction r with
    | refl => exact h
    | tail _ r ih => exact hP _ _ ih r
  exact run (settle_acts s)

end Sys2Proof.Machine
end

section
/-! PROOFS. The exits of a state as cases (R3), the entry to a state field by field, and what the outputs write. -/

namespace Sys2Proof.Machine

set_option Elab.async false

/-! ### The exits of a state, as cases -/

/-- The transitions of STC's exits to a named state, each with its condition (R3 to R7, R10, R18, R20). -/
inductive Exit (s : State) : StationState → Prop
  | fails (h : failureRaised s = true) (hs : s.stc.state ≠ .failed) : Exit s .failed
  | startsStanding (hs : s.stc.state = .offline) (h : offlineEnds s = true) (hv : s.ptb.vehicleStationary = true) :
      Exit s .standstill
  | startsFree (hs : s.stc.state = .offline) (h : offlineEnds s = true) (hv : s.ptb.vehicleStationary = false) :
      Exit s .free
  | serves (hs : s.stc.state = .free ∨ s.stc.state = .standstill) (h : s.suc.inhibit = true) : Exit s .service
  | stands (hs : s.stc.state = .free ∨ s.stc.state = .service) (hi : s.suc.inhibit = false)
      (h : standstillAllowed s = true) : Exit s .standstill
  | secures (hs : s.stc.state = .standstill ∨ s.stc.state = .holding) (h : securing s = true) : Exit s .secured
  | lifts (hs : s.stc.state = .standstill) (hi : s.suc.inhibit = false)
      (h : s.stc.lifted = true ∨ s.ptb.vehicleStationary = false) : Exit s .free
  | holds (hs : s.stc.state = .standstill) (h : hillHold s = true) : Exit s .holding
  | resumes (hs : s.stc.state = .service) (hi : s.suc.inhibit = false) : Exit s .free

theorem exitMove_goto {s : State} {t : StationState} (h : exitMove s = some (.goto t)) : Exit s t := by
  unfold exitMove at h
  split at h
  · rename_i hf
    simp only [Bool.and_eq_true, decide_eq_true_eq] at hf
    cases h
    exact .fails hf.1 hf.2
  · split at h
    · rename_i m hm
      split at hm
      · simp only [alarmExit, Option.map_eq_some_iff] at hm
        obtain ⟨n, -, rfl⟩ := hm
        cases h
      · cases hm
    · unfold stateExit at h
      split at h <;> rename_i hs
      case h_1 =>
        split at h
        · rename_i ho
          cases hv : s.ptb.vehicleStationary <;> simp only [hv, if_true, Bool.false_eq_true, if_false] at h <;> cases h
          · exact .startsFree hs ho hv
          · exact .startsStanding hs ho hv
        · cases h
      case h_2 =>
        split at h
        · cases h; exact .serves (.inl hs) ‹_›
        · split at h <;> cases h
          exact .stands (.inl hs) (by simp_all) ‹_›
      case h_3 =>
        (repeat' split at h) <;> cases h
        · exact .serves (.inr hs) ‹_›
        · exact .secures (.inl hs) ‹_›
        · exact .lifts hs (by simp_all) (.inl ‹_›)
        · exact .lifts hs (by simp_all) (.inr (by simp_all))
        · exact .holds hs ‹_›
      case h_4 =>
        (repeat' split at h) <;> cases h
        exact .secures (.inr hs) ‹_›
      case h_5 => split at h <;> cases h
      case h_6 => split at h <;> cases h
      case h_7 =>
        split at h
        · rename_i hi
          have hi : s.suc.inhibit = false := by simpa using hi
          cases ha : standstillAllowed s <;> simp only [ha, if_true, Bool.false_eq_true, if_false] at h <;> cases h
          · exact .resumes hs hi
          · exact .stands (.inr hs) hi ha
        · cases h
      all_goals cases h

/-- An exit that is no named state comes from the exits of the state itself. -/
theorem stateExit_of_exitMove {s : State} {m : Move} (h : exitMove s = some m) (hg : ∀ t, m ≠ .goto t)
    (hp : ∀ n, m ≠ .peerAlarm n) : stateExit s = some m := by
  unfold exitMove at h
  split at h
  · cases h; exact absurd rfl (hg _)
  · split at h
    · rename_i m' hm
      cases h
      split at hm
      · simp only [alarmExit, Option.map_eq_some_iff] at hm
        obtain ⟨n, -, rfl⟩ := hm
        exact absurd rfl (hp n)
      · cases hm
    · exact h

theorem exitMove_exchange {s : State} (h : exitMove s = some .exchange) :
    (s.stc.state = .holding ∨ s.stc.state = .secured) ∧ exchangeReady s = true := by
  have h1 := stateExit_of_exitMove h (by simp) (by simp)
  unfold stateExit at h1
  split at h1 <;> rename_i hs
  case h_4 =>
    split at h1
    · exact ⟨.inl hs, ‹_›⟩
    · split at h1 <;> cases h1
  case h_5 =>
    split at h1
    · exact ⟨.inr hs, ‹_›⟩
    · cases h1
  all_goals (repeat' split at h1) <;> cases h1

theorem exitMove_withdraw {s : State} (h : exitMove s = some .withdraw) :
    exchanging s = true ∧ leaveReasonCeased s = true := by
  have h1 := stateExit_of_exitMove h (by simp) (by simp)
  unfold stateExit at h1
  split at h1 <;> rename_i hs
  case h_6 =>
    split at h1
    · rename_i hc
      simp only [Bool.and_eq_true, decide_eq_true_eq] at hc
      exact ⟨by simp [exchanging, hs, hc.1], hc.2⟩
    · cases h1
  all_goals (repeat' split at h1) <;> cases h1

/-- An exchange is under way in LEAVING alone. -/
theorem exchanging_iff (s : State) : exchanging s = true ↔ s.stc.state = .leaving ∧ s.hoe.phase = .exchange := by
  simp [exchanging]

theorem releaseInProgress_iff (s : State) :
    releaseInProgress s = true ↔ s.stc.state = .releasing ∧ s.rsq.phase ≠ .idle := by simp [releaseInProgress]

theorem reholds_iff (s : State) :
    reholds s = true ↔ s.stc.state = .free ∧ s.rsq.reholdWindow.isSome = true ∧ s.ptb.abortPeer = true := by
  simp [reholds, and_assoc]

/-! ### The entry to a state, field by field -/

@[simp] theorem Crm.watch_enter (t : StationState) (h : Bool) (a : Option Int) (c : Crm) :
    (c.enter t h a).watch = t.monitored := by
  unfold Crm.enter
  dsimp only
  generalize (if h = true then c.zero else c) = c1
  cases hm : t.monitored <;> cases hw : c1.watch <;> simp [hw, Crm.beginWatch, Crm.endWatch]

theorem Rsq.phase_enter (f t : StationState) (g : Option Direction) (d : Int) (r : Rsq) :
    (r.enter f t g d).phase = if t = .releasing then .waitingTurn else if f = .releasing then .idle else r.phase := by
  unfold Rsq.enter
  cases f <;> cases t <;> rfl

theorem Rsq.window_enter (f t : StationState) (g : Option Direction) (d : Int) (r : Rsq) :
    (r.enter f t g d).reholdWindow = (if f = .free then none else r.reholdWindow)
      ∧ (r.enter f t g d).releaseCompleted = (if f = .free then none else r.releaseCompleted) := by
  unfold Rsq.enter
  cases f <;> cases t <;> exact ⟨rfl, rfl⟩

theorem Rsq.abort_enter (f t : StationState) (g : Option Direction) (d : Int) (r : Rsq) :
    (r.enter f t g d).abortFlag = r.abortFlag ∧ (r.enter f t g d).abortFlagTimer = r.abortFlagTimer
      ∧ (r.enter f t g d).lastAbort = r.lastAbort ∧ (r.enter f t g d).abortCount = r.abortCount := by
  unfold Rsq.enter
  cases f <;> cases t <;> exact ⟨rfl, rfl, rfl, rfl⟩

/-- The leaver phase in a new state (R105, R114). -/
theorem Hoe.phase_enter (t : StationState) (h : Hoe) :
    (h.enter t).phase =
      match t with
      | .alarm | .failed => .idle
      | .holding | .secured | .leaving => h.phase
      | .offline | .free | .standstill | .releasing | .service => if h.phase = .deferred then .idle else h.phase := by
  cases t <;> unfold Hoe.enter <;> dsimp only <;> first | rfl | (split <;> rfl)

/-! ### What the outputs write -/

@[simp] theorem join_joinTo (j : Join) (s : State) : (joinTo j s).mod.join = j := by
  rw [show (joinTo j s).mod = _ from takeModResult_mod _ _]
  exact congrArg Outfit.join (Mod.outfit_joinTo j s.mod)

@[simp] theorem parkCmd_joinTo (j : Join) (s : State) : (joinTo j s).mod.parkCmd = s.mod.parkCmd := by
  rw [show (joinTo j s).mod = _ from takeModResult_mod _ _]
  exact congrArg Outfit.parkCmd (Mod.outfit_joinTo j s.mod)

@[simp] theorem outfit_appendSteps (x : Source) (l : List Step) (s : State) :
    (appendSteps x l s).mod.outfit = s.mod.outfit := by
  rw [show (appendSteps x l s).mod = _ from takeModResult_mod _ _]
  exact Mod.outfit_append _ _ _ _

@[simp] theorem parkCmd_orderPark (b : Bool) (s : State) : (orderPark b s).mod.parkCmd = b := by
  show (s.mod.orderPark b s.suc.axle s.now).parkCmd = b
  unfold Mod.orderPark
  split
  · rename_i h; exact h.symm
  · split
    · rename_i h; exact h.symm
    · rename_i h; simp only [Mod.deEnergisePark]; simpa using h

theorem nearly_parkForState (s : State) : Nearly s (parkForState s) := by
  unfold parkForState
  split
  · exact nearly_orderPark _ s
  · exact .refl s

theorem nearly_alarmStep (s : State) : Nearly s (alarmStep s) :=
  ((quietly_sync s).trans (quietly_compute _)).toNearly.trans (nearly_appendSteps _ _ _)

/-- The outputs take no transition. -/
theorem nearly_outputs (s : State) : Nearly s (outputs s) := by
  have h : Nearly s (joinForState (parkForState s)) := (nearly_parkForState s).trans (nearly_joinTo _ _)
  unfold outputs
  dsimp only
  split
  · exact h.trans (nearly_alarmStep _)
  · exact h

/-- The park valve and the join that the outputs set. -/
theorem outfit_outputs (s : State) :
    (outputs s).mod.outfit = (joinForState (parkForState s)).mod.outfit := by
  unfold outputs
  dsimp only
  split
  · unfold alarmStep
    dsimp only
    rw [outfit_appendSteps]
    exact ((quietly_sync _).trans (quietly_compute _)).outfit
  · rfl

theorem outputs_parkCmd {s : State} {b : Bool} (h : parkOf s.stc.origin s.stc.state = some b) :
    (outputs s).mod.parkCmd = b := by
  rw [show (outputs s).mod.parkCmd = _ from congrArg Outfit.parkCmd (outfit_outputs s)]
  show (joinTo _ (parkForState s)).mod.parkCmd = b
  rw [parkCmd_joinTo, parkForState, h]
  exact parkCmd_orderPark b s

/-- SERVICE leaves the park valve as it was. -/
theorem outputs_parkCmd_none {s : State} (h : parkOf s.stc.origin s.stc.state = none) :
    (outputs s).mod.parkCmd = s.mod.parkCmd := by
  rw [show (outputs s).mod.parkCmd = _ from congrArg Outfit.parkCmd (outfit_outputs s)]
  show (joinTo _ (parkForState s)).mod.parkCmd = _
  rw [parkCmd_joinTo, parkForState, h]

theorem outputs_join (s : State) : (outputs s).mod.join = joinOf s.hoe.phase s.stc.state := by
  rw [show (outputs s).mod.join = _ from congrArg Outfit.join (outfit_outputs s)]
  show (joinTo _ (parkForState s)).mod.join = _
  rw [join_joinTo]
  have h := (nearly_parkForState s).standing
  rw [state_of_standing h, show (parkForState s).hoe.phase = s.hoe.phase from congrArg (fun x => x.hoe.phase) h]

end Sys2Proof.Machine
end

section
/-! PROOFS. What every transition and every act keep: FAILED, OFFLINE at a faulty station, the sticky flags, the marks and
phases of the station states, the park valve and the join. -/

namespace Sys2Proof.Machine

set_option Elab.async false

/-! ### Closing a predicate under the acts -/

/-- A predicate that the parts of an event keep. -/
structure Kept (P : State → Prop) : Prop where
  nearly : ∀ s t, P s → Nearly s t → P t
  followLift : ∀ s, P s → P (followLift s)
  hop : ∀ s t, P s → Hop s t → P t
  minor : ∀ s t, P s → Minor s t → P t

namespace Kept

variable {P : State → Prop}

theorem hops (k : Kept P) {s t : State} (h : P s) (r : Hops s t) : P t := by
  induction r with
  | refl => exact h
  | tail _ r ih =>
    rcases r with r | rfl
    · exact k.hop _ _ ih r
    · exact k.followLift _ ih

/-- Every act keeps it. -/
theorem act (k : Kept P) {s t : State} (h : P s) (a : Act s t) : P t := by
  cases a with
  | quiet q => exact k.nearly _ _ h q.toNearly
  | followLift => exact k.followLift _ h
  | minor m _ => exact k.minor _ _ h m
  | ventService _ => exact k.nearly _ _ h (nearly_joinTo _ _)
  | turn ha hs hp => exact k.nearly _ _ (k.minor _ _ h (.turn ha hs hp)) (nearly_appendSteps _ _ _)
  | succeed h1 h2 =>
    exact k.nearly _ _ (k.nearly _ _ (k.minor _ _ h (.succeed h1 h2)) (nearly_joinTo _ _)) (nearly_appendSteps _ _ _)
  | moved r rs => exact k.nearly _ _ (k.hops (k.hop _ _ h r) rs) (nearly_outputs _)

/-- Settling keeps it. -/
theorem settle (k : Kept P) {s : State} (h : P s) : P (settle s) := settle_of_acts (fun _ _ => k.act) h

/-- What follows a transition keeps it. -/
theorem afterMove (k : Kept P) {s : State} (h : P s) : P (afterMove s) :=
  k.nearly _ _ (k.hops h (hops_chain _ _)) (nearly_outputs _)

end Kept

/-! ### The station state -/

@[simp] theorem state_enterState (t : StationState) (s : State) : (enterState t s).stc.state = t := rfl

@[simp] theorem Stc.state_enter (t : StationState) (n : Word32) (l : Nat) (i : Bool) (c : Stc) :
    (c.enter t n l i).state = t := rfl

@[simp] theorem state_followLift (s : State) : (followLift s).stc.state = s.stc.state := by
  unfold followLift; split <;> rfl

theorem state_minor {s t : State} (h : Minor s t) : t.stc.state = s.stc.state := by
  cases h with
  | deferAsk => unfold deferAsk; split <;> rfl
  | testUnpark => unfold testUnpark; dsimp only; (repeat' split) <;> rfl
  | _ => rfl

theorem Exit.ne_failed {s : State} {t : StationState} (h : Exit s t) : s.stc.state ≠ .failed := by
  cases h with
  | fails _ hs => exact hs
  | startsStanding hs | startsFree hs | lifts hs | holds hs | resumes hs => simp [hs]
  | serves hs | stands hs | secures hs => rcases hs with hs | hs <;> simp [hs]

theorem failed_takeAlarmCause {s : State} (c : AlarmCause) (h : s.stc.state = .failed) :
    (takeAlarmCause c s).stc.state = .failed := by
  simp [takeAlarmCause, h, StationState.alarmable]

/-- FAILED stays under every transition (R20). -/
theorem hop_failed {s t : State} (h : s.stc.state = .failed) (r : Hop s t) : t.stc.state = .failed := by
  have hx : ¬ exchanging s = true := by simp [exchanging, h]
  cases r with
  | goto t ht => exact absurd h (exitMove_goto ht).ne_failed
  | peerShows n _ => exact failed_takeAlarmCause _ h
  | peerAlarm n rest _ _ => exact failed_takeAlarmCause (s := { s with agenda := _ }) _ h
  | rollaway c rest _ ha => simp [h, StationState.alarmable] at ha
  | exchange hm => have := (exitMove_exchange hm).1; simp [h] at this
  | withdraw hm => exact absurd (exitMove_withdraw hm).1 hx
  | yield _ _ _ hy => exact absurd hy hx
  | unparked _ _ _ _ hs => simp [h] at hs
  | rampOver hs _ _ => simp [h] at hs
  | released hs _ _ => simp [h] at hs
  | reheldAtOnce hs _ _ _ => simp [h] at hs
  | reheld _ hr => simp [reholds_iff, h] at hr
  | aborted _ hr _ | abortedByPeer _ hr => simp [releaseInProgress_iff, h] at hr

theorem nearly_state {x : StationState} (s t : State) (h : s.stc.state = x) (q : Nearly s t) : t.stc.state = x :=
  (state_of_standing q.standing).trans h

theorem kept_failed : Kept (fun s => s.stc.state = .failed) where
  nearly := nearly_state
  followLift := fun s h => (state_followLift s).trans h
  hop := fun _ _ => hop_failed
  minor := fun _ _ h m => (state_minor m).trans h

/-! ### OFFLINE at a faulty station -/

/-- A station that cannot leave OFFLINE but for FAILED (R4, R20). -/
def Grounded (s : State) : Prop :=
  (s.stc.state = .offline ∨ s.stc.state = .failed) ∧ (5 ≤ s.suc.role.val ∨ s.suc.pmem = .fault)

theorem Grounded.not_offlineEnds {s : State} (h : Grounded s) : offlineEnds s = false := by
  rcases h.2 with h | h <;> simp [offlineEnds, h]

theorem Exit.of_grounded {s : State} {t : StationState} (h : Exit s t) (hg : Grounded s) : t = .failed := by
  have ho := hg.not_offlineEnds
  cases h with
  | fails => rfl
  | startsStanding _ h | startsFree _ h => rw [ho] at h; cases h
  | lifts hs | holds hs | resumes hs => rcases hg.1 with h | h <;> simp [hs] at h
  | serves hs | stands hs | secures hs => rcases hg.1 with h | h <;> simp [h] at hs

theorem Grounded.of_views {s t : State} (h : Grounded s) (hs : t.stc.state = s.stc.state) (hu : t.suc = s.suc) :
    Grounded t := by
  unfold Grounded at *
  rwa [hs, hu]

theorem grounded_takeAlarmCause {s : State} (c : AlarmCause) (h : Grounded s) : Grounded (takeAlarmCause c s) := by
  have ha : s.stc.state.alarmable = false := by rcases h.1 with h | h <;> simp [h, StationState.alarmable]
  simpa [takeAlarmCause, ha] using h.of_views (t := countAlarm s) rfl rfl

theorem hop_grounded {s t : State} (h : Grounded s) (r : Hop s t) : Grounded t := by
  have ha : s.stc.state.alarmable = false := by rcases h.1 with h | h <;> simp [h, StationState.alarmable]
  have hx : ¬ exchanging s = true := by rcases h.1 with h | h <;> simp [exchanging, h]
  have no (x : StationState) (h1 : x ≠ .offline) (h2 : x ≠ .failed) : s.stc.state ≠ x := by
    intro e
    rcases h.1 with h | h
    exacts [h1 (e.symm.trans h), h2 (e.symm.trans h)]
  cases r with
  | goto t ht => exact ⟨.inr ((exitMove_goto ht).of_grounded h), h.2⟩
  | peerShows n _ => exact grounded_takeAlarmCause _ h
  | peerAlarm n rest _ _ => exact grounded_takeAlarmCause _ (h.of_views (t := { s with agenda := _ }) rfl rfl)
  | rollaway c rest _ hx => simp [ha] at hx
  | exchange hm => rcases (exitMove_exchange hm).1 with hs | hs <;> exact absurd hs (no _ (by simp) (by simp))
  | withdraw hm => exact absurd (exitMove_withdraw hm).1 hx
  | yield _ _ _ hy => exact absurd hy hx
  | unparked _ _ _ _ hs => exact absurd hs (no _ (by simp) (by simp))
  | rampOver hs _ _ => exact absurd hs (no _ (by simp) (by simp))
  | released hs _ _ => exact absurd hs (no _ (by simp) (by simp))
  | reheldAtOnce hs _ _ _ => exact absurd hs (no _ (by simp) (by simp))
  | reheld _ hr => exact absurd ((reholds_iff s).1 hr).1 (no _ (by simp) (by simp))
  | aborted _ hr _ | abortedByPeer _ hr => exact absurd ((releaseInProgress_iff s).1 hr).1 (no _ (by simp) (by simp))

theorem suc_minor {s t : State} (h : Minor s t) : t.suc = s.suc := by
  cases h with
  | deferAsk => unfold deferAsk; split <;> rfl
  | testUnpark => unfold testUnpark; dsimp only; (repeat' split) <;> rfl
  | _ => rfl

theorem nearly_grounded (s t : State) (h : Grounded s) (q : Nearly s t) : Grounded t :=
  h.of_views (state_of_standing q.standing) (suc_of_steady q.steady)

theorem kept_grounded : Kept Grounded where
  nearly := nearly_grounded
  followLift := fun s h => h.of_views (state_followLift s) (suc_of_steady (steady_followLift s))
  hop := fun _ _ => hop_grounded
  minor := fun _ _ h m => h.of_views (state_minor m) (suc_minor m)

/-! ### The sticky flags -/

theorem faults_enterState (t : StationState) (s : State) {f : Flag} (hf : f.sticky = true) :
    (enterState t s).stc.faults.get f = s.stc.faults.get f :=
  FaultSet.get_atChange _ _ _ f ⟨(by rintro rfl; cases hf), (by rintro rfl; cases hf)⟩

@[simp] theorem faults_followLift (s : State) : (followLift s).stc.faults = s.stc.faults := by
  unfold followLift; split <;> rfl

theorem faults_returnToOrigin (s : State) {f : Flag} (hf : f.sticky = true) :
    (returnToOrigin s).stc.faults.get f = s.stc.faults.get f := by
  unfold returnToOrigin
  dsimp only
  split
  · rw [faults_enterState _ _ hf, faults_enterState _ _ hf]
  · exact faults_enterState _ _ hf

theorem faults_takeAlarmCause (c : AlarmCause) (s : State) {f : Flag} (hf : f.sticky = true) :
    (takeAlarmCause c s).stc.faults.get f = s.stc.faults.get f := by
  unfold takeAlarmCause
  split
  · exact faults_enterState _ _ hf
  · rfl

/-- A transition leaves every sticky flag as it is. -/
theorem faults_hop {s t : State} (r : Hop s t) {f : Flag} (hf : f.sticky = true) :
    t.stc.faults.get f = s.stc.faults.get f := by
  have rehold (u : State) : (rehold u).stc.faults.get f = u.stc.faults.get f := by
    unfold Machine.rehold
    dsimp only
    split
    · rfl
    · exact faults_enterState _ _ hf
  have released : (released s).stc.faults.get f = s.stc.faults.get f := by
    unfold Machine.released
    rw [faults_followLift]
    exact faults_enterState _ _ hf
  cases r with
  | goto t _ => exact faults_enterState t s hf
  | peerShows n _ => exact faults_takeAlarmCause _ _ hf
  | peerAlarm n rest _ _ => exact faults_takeAlarmCause _ { s with agenda := _ } hf
  | rollaway c rest _ ha =>
    rw [takeRollaway, if_pos ha]
    exact faults_enterState _ _ hf
  | exchange _ => exact faults_enterState _ _ hf
  | withdraw _ => exact faults_returnToOrigin _ hf
  | yield _ _ _ _ => exact faults_returnToOrigin _ hf
  | unparked _ _ _ _ _ => exact faults_enterState _ _ hf
  | rampOver _ _ _ =>
    unfold Machine.rampOver
    dsimp only
    split <;> exact faults_enterState _ _ hf
  | released _ _ _ => exact released
  | reheldAtOnce _ _ _ _ => exact (rehold _).trans released
  | reheld _ _ => exact rehold _
  | aborted _ _ _ | abortedByPeer _ _ => exact faults_enterState _ _ hf

theorem faults_minor {s t : State} (h : Minor s t) : t.stc.faults = s.stc.faults := by
  cases h with
  | deferAsk => unfold deferAsk; split <;> rfl
  | testUnpark => unfold testUnpark; dsimp only; (repeat' split) <;> rfl
  | _ => rfl

theorem nearly_flag {f : Flag} (hf : f.sticky = true) (s t : State) (h : s.stc.faults.get f = true)
    (q : Nearly s t) : t.stc.faults.get f = true := by
  by_cases hq : f = .queueOverrun
  · subst hq; exact q.overrun h
  · rw [q.sticky f hf hq, h]

/-- A sticky flag that is set stays set (R21). -/
theorem kept_flag {f : Flag} (hf : f.sticky = true) : Kept (fun s => s.stc.faults.get f = true) where
  nearly := nearly_flag hf
  followLift := fun s h => by rw [faults_followLift, h]
  hop := fun _ _ h r => (faults_hop r hf).trans h
  minor := fun _ _ h m => by rw [faults_minor m, h]

/-- No report raises a sticky flag but QUEUE_OVERRUN. -/
theorem kept_flag_eq {f : Flag} (hf : f.sticky = true) (hq : f ≠ .queueOverrun) (b : Bool) :
    Kept (fun s => s.stc.faults.get f = b) where
  nearly := fun _ _ h q => (q.sticky f hf hq).trans h
  followLift := fun s h => by rw [faults_followLift, h]
  hop := fun _ _ h r => (faults_hop r hf).trans h
  minor := fun _ _ h m => by rw [faults_minor m, h]

end Sys2Proof.Machine
end

section
/-! PROOFS. Each mark, phase and timer with its station state (`RecordsRight`), and the park valve and the join
(`ParkRight`, `JoinRight`), under every part of an event. -/

namespace Sys2Proof.Machine

set_option Elab.async false

/-! ### The records at the entry to a state -/

/-- What a state to be left must show so that the entry to `t` puts every record right. -/
structure EnterRight (t : StationState) (s : State) : Prop where
  release : s.rsq.phase ≠ .idle → s.stc.state = .releasing
  leaver : t ≠ .alarm → t ≠ .failed → ((s.hoe.phase = .exchange ∨ s.hoe.phase = .ramp) ↔ t = .leaving)
  spring : s.stc.faults.springShortfall = true → s.stc.state = .secured
  window : s.rsq.reholdWindow.isSome = true → s.stc.state = .free
  completed : s.rsq.reholdWindow.isSome = s.rsq.releaseCompleted.isSome
  abort : s.rsq.abortFlag = s.rsq.abortFlagTimer.isSome
  lifted : s.stc.lifted = true → s.stc.loweringTimer = none

theorem EnterRight.of_records {t : StationState} {s : State} (h : RecordsRight s)
    (ht : t = .alarm ∨ t = .failed ∨ (s.stc.state ≠ .leaving ∧ t ≠ .leaving)) : EnterRight t s := by
  obtain ⟨-, hr, -, hl, -, -, -, -, hsp, -, -, hw, hc, ha, hli⟩ := h
  refine ⟨hr.1, fun h1 h2 => ?_, hsp, hw, hc, ha, hli⟩
  have h3 := (ht.resolve_left h1).resolve_left h2
  exact ⟨fun h => absurd (hl.1 h) h3.1, fun h => absurd h h3.2⟩

/-- The leaver phases fit the state entered (R105, R114). -/
theorem Hoe.leaver_enter (t : StationState) (h : Hoe)
    (hl : t ≠ .alarm → t ≠ .failed → ((h.phase = .exchange ∨ h.phase = .ramp) ↔ t = .leaving)) :
    (((h.enter t).phase = .exchange ∨ (h.enter t).phase = .ramp) ↔ t = .leaving)
      ∧ ((h.enter t).phase = .deferred → t = .holding ∨ t = .secured) := by
  rw [Hoe.phase_enter]
  cases hp : h.phase <;> cases t <;> simp_all

/-- The entry to a state puts every record right. -/
theorem records_enterState {t : StationState} {s : State} (h : EnterRight t s) : RecordsRight (enterState t s) := by
  have hr : (enterState t s).rsq.phase = _ := Rsq.phase_enter s.stc.state t (cabNow s).gear.move s.crm.d s.rsq
  have hw := Rsq.window_enter s.stc.state t (cabNow s).gear.move s.crm.d s.rsq
  have ha := Rsq.abort_enter s.stc.state t (cabNow s).gear.move s.crm.d s.rsq
  refine ⟨?_, ?_, Crm.watch_enter _ _ _ _, ?_, ?_, ?_, ?_, ?_, ?_, ?_, ?_, ?_, ?_, ?_, ?_⟩
  · simp [Plan.enter]
  · rw [hr, state_enterState]
    split
    · simp [*]
    · split
      · simp [*]
      · rename_i ht hs
        exact ⟨fun hp => absurd (h.release hp) hs, fun e => absurd e ht⟩
  · exact (Hoe.leaver_enter t s.hoe h.leaver).1
  · exact (Hoe.leaver_enter t s.hoe h.leaver).2
  · intro hu; cases hu
  · intro hu; cases hu
  · intro hu
    exact (Bool.and_eq_true_iff.1 hu).2
  · intro hu
    have hu := Bool.and_eq_true_iff.1 hu
    have hf := h.spring hu.1
    simpa [hf] using hu.2
  · show (holdTimerAt s.stc.state t _ _).isSome = true → _
    cases t <;> simp [holdTimerAt]
  · show (s.hpl.enter s.stc.state t s.mod.pMeas).decreaseWait.isSome = true → _
    cases t <;> simp [Plan.enter]
  · intro hu
    rw [show (enterState t s).rsq.reholdWindow = _ from hw.1] at hu
    split at hu
    · cases hu
    · exact absurd (h.window hu) ‹_›
  · show (s.rsq.enter _ _ _ _).reholdWindow.isSome = (s.rsq.enter _ _ _ _).releaseCompleted.isSome
    rw [hw.1, hw.2]
    split
    · rfl
    · exact h.completed
  · show (s.rsq.enter _ _ _ _).abortFlag = (s.rsq.enter _ _ _ _).abortFlagTimer.isSome
    rw [ha.1, ha.2.1]
    exact h.abort
  · intro hu
    have hl := h.lifted hu
    show (if t = .failed then none else s.stc.loweringTimer) = none
    split <;> simp [hl]

/-! ### The records under every part of an event -/

theorem nearly_records (s t : State) (h : RecordsRight s) (q : Nearly s t) : RecordsRight t := by
  have hs := q.standing
  have hst := state_of_standing hs
  obtain ⟨h1, h2, h3, h4, h5, h6, h7, h8, h9, h10, h11, h12, h13, h14, h15⟩ := h
  have e1 : t.hpl.planLock = s.hpl.planLock := congrArg Standing.planLock hs
  have e2 : t.rsq.phase = s.rsq.phase := congrArg (fun x => x.rsq.phase) hs
  have e3 := watch_of_standing hs
  have e4 : t.hoe.phase = s.hoe.phase := congrArg (fun x => x.hoe.phase) hs
  have e6 : t.stc.unparkMark = s.stc.unparkMark := congrArg (fun x => x.stc.unparkMark) hs
  have e7 : t.stc.limitMark = s.stc.limitMark := congrArg (fun x => x.stc.limitMark) hs
  have e10 : t.stc.holdTimer = s.stc.holdTimer := congrArg (fun x => x.stc.holdTimer) hs
  have e12 : t.rsq.reholdWindow = s.rsq.reholdWindow := congrArg (fun x => x.rsq.reholdWindow) hs
  have e13 : t.rsq.releaseCompleted = s.rsq.releaseCompleted := congrArg (fun x => x.rsq.releaseCompleted) hs
  have e14 : t.rsq.abortFlag = s.rsq.abortFlag := congrArg (fun x => x.rsq.abortFlag) hs
  have e14' : t.rsq.abortFlagTimer = s.rsq.abortFlagTimer := congrArg (fun x => x.rsq.abortFlagTimer) hs
  have e15 : t.stc.lifted = s.stc.lifted := congrArg (fun x => x.stc.lifted) hs
  have e15' : t.stc.loweringTimer = s.stc.loweringTimer := congrArg (fun x => x.stc.loweringTimer) hs
  unfold RecordsRight
  rw [e1, e2, e3, e4, e6, e7, e10, e12, e13, e14, e14', e15, e15', hst]
  exact ⟨h1, h2, h3, h4, h5, h6, h7, fun x => (q.shortfall x).elim h8 id, fun x => (q.spring x).elim h9 id, h10,
    fun x => (q.wait x).elim h11 id, h12, h13, h14, h15⟩

theorem records_followLift {s : State} (h : RecordsRight s) : RecordsRight (followLift s) := by
  unfold followLift
  split
  · obtain ⟨h1, h2, h3, h4, h5, h6, h7, h8, h9, h10, h11, h12, h13, h14, h15⟩ := h
    refine ⟨h1, h2, h3, h4, h5, h6, h7, h8, h9, h10, h11, h12, h13, h14, fun hl => ?_⟩
    show (if liftAsked s = true then none else some 3000) = none
    rw [if_pos hl]
  · exact h

/-- A leaver whose exchange has ended is returned to a hold (R15). -/
theorem records_returnToOrigin {s : State} (h : EnterRight .holding s) : RecordsRight (returnToOrigin s) := by
  have h1 : RecordsRight (enterState (s.stc.origin.getD .holding).toState s) := by
    refine records_enterState { h with leaver := fun _ _ => ?_ }
    have hl := h.leaver (by simp) (by simp)
    cases s.stc.origin.getD .holding <;> simpa [HoldState.toState] using hl
  unfold returnToOrigin
  dsimp only
  split
  · refine records_enterState (.of_records h1 (.inr (.inr ⟨?_, by simp⟩)))
    rw [state_enterState]
    cases s.stc.origin.getD .holding <;> simp [HoldState.toState]
  · exact h1

theorem records_cancelExchange {s : State} (h : RecordsRight s) (p : LeaverPhase)
    (hp : p = .idle ∨ p = .deferred) : RecordsRight (cancelExchange p s) := by
  have hr := EnterRight.of_records (t := .alarm) h (.inl rfl)
  refine records_returnToOrigin ⟨hr.release, fun _ _ => ?_, hr.spring, hr.window, hr.completed, hr.abort, hr.lifted⟩
  show (p = .exchange ∨ p = .ramp) ↔ _
  rcases hp with rfl | rfl <;> simp

theorem records_closeWindow {s : State} (h : RecordsRight s) : RecordsRight { s with rsq := s.rsq.closeWindow } := by
  obtain ⟨h1, h2, h3, h4, h5, h6, h7, h8, h9, h10, h11, -, -, h14, h15⟩ := h
  exact ⟨h1, h2, h3, h4, h5, h6, h7, h8, h9, h10, h11, (fun x => by cases x), rfl, h14, h15⟩

theorem records_rehold {s : State} (h : RecordsRight s) (hs : s.stc.state = .free) : RecordsRight (rehold s) := by
  have h1 := records_closeWindow h
  unfold rehold
  dsimp only
  split
  · exact h1
  · exact records_enterState (.of_records h1 (.inr (.inr ⟨by simp [hs], by simp⟩)))

theorem records_released {s : State} (h : RecordsRight s) (hs : s.stc.state = .releasing) :
    RecordsRight (released s) := by
  have h1 : RecordsRight (enterState .free s) :=
    records_enterState (.of_records h (.inr (.inr ⟨by simp [hs], by simp⟩)))
  obtain ⟨h1, h2, h3, h4, h5, h6, h7, h8, h9, h10, h11, h12, h13, h14, h15⟩ := h1
  exact records_followLift
    ⟨h1, by simp [Rsq.complete, Rsq.endRelease], h3, h4, h5, h6, h7, h8, h9, h10, h11, fun _ => rfl, rfl, h14, h15⟩

theorem state_released (s : State) : (released s).stc.state = .free := by
  unfold released
  exact state_followLift _

theorem records_takeAlarmCause {s : State} (h : RecordsRight s) (c : AlarmCause) : RecordsRight (takeAlarmCause c s) := by
  obtain ⟨hr, -, hsp, hw, hc, hab, hli⟩ := EnterRight.of_records (t := .alarm) h (.inl rfl)
  unfold takeAlarmCause
  split
  · exact records_enterState ⟨hr, fun h => absurd rfl h, hsp, hw, hc, hab, hli⟩
  · exact h

theorem records_abortedBy {s : State} (h : RecordsRight s) (w : AbortReason) (ha : releaseInProgress s = true) :
    RecordsRight (abortedBy w s) := by
  obtain ⟨hr, -, hsp, hw, hc, hab, hli⟩ := EnterRight.of_records (t := .alarm) h (.inl rfl)
  have hs := ((releaseInProgress_iff s).1 ha).1
  have hl := h.2.2.2.1
  refine records_enterState ⟨fun h => absurd rfl h, fun _ _ => ?_, hsp, hw, hc, rfl, hli⟩
  show (s.hoe.phase = .exchange ∨ s.hoe.phase = .ramp) ↔ _
  rw [hl, hs]
  simp

/-- A transition keeps every record right. -/
theorem hop_records {s t : State} (h : RecordsRight s) (r : Hop s t) : RecordsRight t := by
  have ha : EnterRight .alarm s := .of_records h (.inl rfl)
  obtain ⟨hr, hl, hsp, hw, hc, hab, hli⟩ := ha
  cases r with
  | goto t ht =>
    refine records_enterState (.of_records h ?_)
    cases exitMove_goto ht with
    | fails => exact .inr (.inl rfl)
    | startsStanding hs | startsFree hs | lifts hs | holds hs | resumes hs => exact .inr (.inr ⟨by simp [hs], by simp⟩)
    | serves hs | stands hs | secures hs =>
      exact .inr (.inr ⟨by rcases hs with hs | hs <;> simp [hs], by simp⟩)
  | peerShows n _ => exact records_takeAlarmCause h _
  | peerAlarm n rest _ _ => exact records_takeAlarmCause (s := { s with agenda := { s.agenda with peerAlarms := rest } }) h _
  | rollaway c rest _ ha =>
    rw [takeRollaway, if_pos ha]
    exact records_enterState ⟨hr, fun h => absurd rfl h, hsp, hw, hc, hab, hli⟩
  | exchange hm =>
    have h1 : EnterRight .leaving { s with hoe := s.hoe.startExchange } :=
      ⟨hr, fun _ _ => by simp [Hoe.startExchange], hsp, hw, hc, hab, hli⟩
    exact records_enterState h1
  | withdraw _ => exact records_cancelExchange h _ (.inl rfl)
  | yield m rest _ _ =>
    exact records_cancelExchange
      (s := { s with agenda := { s.agenda with yields := rest }, hoe := { s.hoe with replies := Table.fill none } }) h _ (.inr rfl)
  | unparked e rest _ _ hs =>
    exact records_enterState
      (.of_records (s := { s with agenda := { s.agenda with ends := rest } }) h (.inr (.inr ⟨by simp [hs], by simp⟩)))
  | rampOver hs hp _ =>
    have h1 (t : StationState) (ht : t ≠ .leaving) :
        RecordsRight (enterState t { s with hoe := { s.hoe with phase := .idle, replies := Table.fill none } }) :=
      records_enterState ⟨hr, fun _ _ => by simp [ht], hsp, hw, hc, hab, hli⟩
    unfold Machine.rampOver
    dsimp only
    split
    · exact h1 _ (by simp)
    · obtain ⟨k1, k2, k3, k4, k5, k6, k7, k8, k9, k10, k11, k12, k13, k14, -⟩ := h1 .free (by simp)
      exact ⟨k1, k2, k3, k4, k5, k6, k7, k8, k9, k10, k11, k12, k13, k14, fun _ => rfl⟩
  | released hs hp _ => exact records_released h hs
  | reheldAtOnce hs _ _ _ => exact records_rehold (records_released h hs) (state_released s)
  | reheld _ hr => exact records_rehold (s := { s with agenda := { s.agenda with abortEvent := false } }) h ((reholds_iff s).1 hr).1
  | aborted w ha _ => exact records_abortedBy h w ha
  | abortedByPeer _ hr =>
    exact records_abortedBy (s := { s with agenda := { s.agenda with abortEvent := false } }) h _ hr

theorem minor_records {s t : State} (h : RecordsRight s) (m : Minor s t) : RecordsRight t := by
  obtain ⟨h1, h2, h3, h4, h5, h6, h7, h8, h9, h10, h11, h12, h13, h14, h15⟩ := h
  cases m with
  | tendHandoff =>
    refine ⟨h1, h2, h3, ?_, ?_, h6, h7, h8, h9, h10, h11, h12, h13, h14, h15⟩ <;> simp only [tendHandoff] <;> split
    · rename_i hc
      simp only [Bool.and_eq_true, decide_eq_true_eq] at hc
      rw [← h4, hc.1]; simp
    · exact h4
    · simp
    · exact h5
  | deferAsk =>
    unfold deferAsk
    split
    · rename_i hc
      simp only [Bool.and_eq_true, Bool.or_eq_true, decide_eq_true_eq] at hc
      obtain ⟨⟨⟨⟨hs, -⟩, -⟩, hi⟩, -⟩ := hc
      refine ⟨h1, h2, h3, ?_, fun _ => hs, h6, h7, h8, h9, h10, h11, h12, h13, h14, h15⟩
      rw [← h4, hi]; simp
    · exact ⟨h1, h2, h3, h4, h5, h6, h7, h8, h9, h10, h11, h12, h13, h14, h15⟩
  | testUnpark =>
    unfold testUnpark
    dsimp only
    split
    · rename_i hs
      (repeat' split) <;> exact ⟨h1, h2, h3, h4, h5, fun _ => hs, h7, h8, h9, h10, h11, h12, h13, h14, h15⟩
    · exact ⟨h1, h2, h3, h4, h5, h6, h7, h8, h9, h10, h11, h12, h13, h14, h15⟩
  | unparkUnreached _ _ _ hs => exact ⟨h1, h2, h3, h4, h5, fun _ => hs, h7, h8, h9, h10, h11, h12, h13, h14, h15⟩
  | countRampStep e _ => exact ⟨h1, h2, h3, h4, h5, h6, h7, h8, h9, h10, h11, h12, h13, h14, h15⟩
  | counted _ => exact ⟨h1, h2, h3, h4, h5, h6, h7, h8, h9, h10, h11, h12, h13, h14, h15⟩
  | turn _ hs _ =>
    exact ⟨h1, by simp [Rsq.takeTurn, hs], h3, h4, h5, h6, h7, h8, h9, h10, h11, h12, h13, h14, h15⟩
  | succeed hx _ =>
    have hs := ((exchanging_iff s).1 hx).1
    exact ⟨h1, h2, h3, by simp [hs], by simp, h6, h7, h8, h9, h10, h11, h12, h13, h14, h15⟩

theorem kept_records : Kept RecordsRight where
  nearly := nearly_records
  followLift := fun _ => records_followLift
  hop := fun _ _ => hop_records
  minor := fun _ _ => minor_records

/-! ### The park valve and the join -/

/-- The park valve and the join are as the state asks. -/
def Fitted (s : State) : Prop := ParkRight s ∧ JoinRight s

theorem fitted_outputs (s : State) : Fitted (outputs s) := by
  have hs := (nearly_outputs s).standing
  have h1 := state_of_standing hs
  have h2 : (outputs s).stc.origin = s.stc.origin := congrArg (fun x => x.stc.origin) hs
  have h3 : (outputs s).hoe.phase = s.hoe.phase := congrArg (fun x => x.hoe.phase) hs
  refine ⟨fun b hb => ?_, .inl ?_⟩
  · rw [h1, h2] at hb
    exact outputs_parkCmd hb
  · rw [h1, h3]
    exact outputs_join s

theorem fitted_afterMove (s : State) : Fitted (afterMove s) := fitted_outputs _

/-- What the park valve follows is the same in two states. -/
theorem ParkRight.of_same {s t : State} (h : ParkRight s) (hs : t.stc.state = s.stc.state)
    (ho : t.stc.origin = s.stc.origin) (hk : t.mod.parkCmd = s.mod.parkCmd) : ParkRight t := fun b hb => by
  rw [hk]; exact h b (by rwa [hs, ho] at hb)

/-- What the join follows is the same in two states; a hand-off ramp is neither begun nor ended. -/
theorem JoinRight.of_same {s t : State} (h : JoinRight s) (hs : t.stc.state = s.stc.state)
    (hp : t.hoe.phase = .ramp ↔ s.hoe.phase = .ramp) (hj : t.mod.join = s.mod.join) : JoinRight t := by
  have hjo : joinOf t.hoe.phase s.stc.state = joinOf s.hoe.phase s.stc.state := by
    unfold joinOf; simp only [hp]
  unfold JoinRight
  rw [hj, hs, hjo]
  exact h

theorem Fitted.of_same {s t : State} (h : Fitted s) (hs : t.stc.state = s.stc.state) (ho : t.stc.origin = s.stc.origin)
    (hp : t.hoe.phase = .ramp ↔ s.hoe.phase = .ramp) (hk : t.mod.parkCmd = s.mod.parkCmd)
    (hj : t.mod.join = s.mod.join) : Fitted t :=
  ⟨h.1.of_same hs ho hk, h.2.of_same hs hp hj⟩

end Sys2Proof.Machine
end

section
/-! PROOFS. What a command does, said once: every command but RESET is a run of effects (`Effect`), and what every effect
keeps. -/

namespace Sys2Proof.Machine

set_option Elab.async false

/-! ### The park valve and the join under every act -/

theorem minor_fit {s t : State} (m : Minor s t) :
    t.stc.origin = s.stc.origin ∧ t.mod = s.mod ∧ (s.hoe.phase = .ramp → t.hoe.phase = .ramp) := by
  cases m with
  | tendHandoff => exact ⟨rfl, rfl, fun h => by simp [tendHandoff, h]⟩
  | deferAsk =>
    unfold deferAsk
    split
    · rename_i hc
      simp only [Bool.and_eq_true, decide_eq_true_eq] at hc
      exact ⟨rfl, rfl, fun h => by simp [hc.1.2] at h⟩
    · exact ⟨rfl, rfl, id⟩
  | testUnpark => unfold testUnpark; dsimp only; (repeat' split) <;> exact ⟨rfl, rfl, id⟩
  | succeed => exact ⟨rfl, rfl, fun _ => rfl⟩
  | _ => exact ⟨rfl, rfl, id⟩

theorem followLift_fit (s : State) :
    (followLift s).stc.origin = s.stc.origin ∧ (followLift s).mod = s.mod ∧ (followLift s).hoe = s.hoe := by
  unfold followLift
  split <;> exact ⟨rfl, rfl, rfl⟩

theorem parkRight_of_nearly {s t : State} (h : ParkRight s) (q : Nearly s t) (hk : t.mod.parkCmd = s.mod.parkCmd) :
    ParkRight t :=
  h.of_same (state_of_standing q.standing) (congrArg (fun x => x.stc.origin) q.standing) hk

theorem joinRight_of_nearly {s t : State} (h : JoinRight s) (q : Nearly s t) (hj : t.mod.join = s.mod.join) :
    JoinRight t :=
  h.of_same (state_of_standing q.standing)
    (by rw [show t.hoe.phase = s.hoe.phase from congrArg (fun x => x.hoe.phase) q.standing]) hj

theorem fitted_of_nearly {s t : State} (h : Fitted s) (q : Nearly s t) (ho : t.mod.outfit = s.mod.outfit) : Fitted t :=
  ⟨parkRight_of_nearly h.1 q (congrArg Outfit.parkCmd ho), joinRight_of_nearly h.2 q (congrArg Outfit.join ho)⟩

/-- Every act keeps the park valve as the state asks (R2). -/
theorem act_parkRight {s t : State} (h : ParkRight s) (a : Act s t) : ParkRight t := by
  have append (u : State) (x : Source) (l : List Step) (hu : ParkRight u) : ParkRight (appendSteps x l u) :=
    parkRight_of_nearly hu (nearly_appendSteps _ _ _) (congrArg Outfit.parkCmd (outfit_appendSteps _ _ _))
  cases a with
  | quiet q => exact parkRight_of_nearly h q.toNearly (congrArg Outfit.parkCmd q.outfit)
  | followLift =>
    obtain ⟨h1, h2, -⟩ := followLift_fit s
    exact h.of_same (state_followLift s) h1 (by rw [h2])
  | minor m _ =>
    obtain ⟨h1, h2, -⟩ := minor_fit m
    exact h.of_same (state_minor m) h1 (by rw [h2])
  | ventService _ => exact parkRight_of_nearly h (nearly_joinTo _ _) (parkCmd_joinTo _ _)
  | turn _ _ _ => exact append _ _ _ (h.of_same rfl rfl rfl)
  | succeed _ _ =>
    refine append _ _ _ (parkRight_of_nearly ?_ (nearly_joinTo _ _) (parkCmd_joinTo _ _))
    exact h.of_same rfl rfl rfl
  | moved _ _ => exact (fitted_outputs _).1

/-- The join that a success takes is that of the ramp (R110). -/
theorem joinRight_joinTo_release {s : State} (hl : s.stc.state = .leaving) (hr : s.hoe.phase = .ramp) :
    JoinRight (joinTo .release s) := by
  have q := (nearly_joinTo .release s).standing
  refine .inl ?_
  rw [join_joinTo, state_of_standing q, hl,
    show (joinTo .release s).hoe.phase = .ramp from (congrArg (fun x => x.hoe.phase) q).trans hr]
  rfl

/-- Every act keeps the join as the state asks (R2). -/
theorem act_joinRight {s t : State} (h : JoinRight s) (a : Act s t) : JoinRight t := by
  have append (u : State) (x : Source) (l : List Step) (hu : JoinRight u) : JoinRight (appendSteps x l u) :=
    joinRight_of_nearly hu (nearly_appendSteps _ _ _) (congrArg Outfit.join (outfit_appendSteps _ _ _))
  cases a with
  | quiet q => exact joinRight_of_nearly h q.toNearly (congrArg Outfit.join q.outfit)
  | followLift =>
    obtain ⟨-, h2, h3⟩ := followLift_fit s
    exact h.of_same (state_followLift s) (by rw [h3]) (by rw [h2])
  | minor m hr =>
    obtain ⟨-, h2, h3⟩ := minor_fit m
    exact h.of_same (state_minor m) ⟨hr, h3⟩ (by rw [h2])
  | ventService hs =>
    refine .inl ?_
    rw [join_joinTo, state_of_standing (nearly_joinTo .idleVent s).standing, hs]
    rfl
  | turn _ _ _ => exact append _ _ _ (h.of_same rfl .rfl rfl)
  | succeed hx _ => exact append _ _ _ (joinRight_joinTo_release ((exchanging_iff s).1 hx).1 rfl)
  | moved _ _ => exact (fitted_outputs _).2

theorem act_fitted {s t : State} (h : Fitted s) (a : Act s t) : Fitted t := ⟨act_parkRight h.1 a, act_joinRight h.2 a⟩

theorem settle_fitted {s : State} (h : Fitted s) : Fitted (settle s) := settle_of_acts (fun _ _ h a => act_fitted h a) h

/-! ### Effects of a command -/

/-- What the invariants of the whole machine read of a state. -/
structure Core where
  stc : Stc
  planLock : Bool
  wait : Bool
  watch : Bool
  leaver : LeaverPhase
  release : ReleasePhase
  window : Timer
  completed : Option Word32
  abortFlag : Bool
  abortTimer : Timer
  parkCmd : Bool
  join : Join
  role : Fin 8

/-- The core of a state. -/
def core (s : State) : Core :=
  { stc := { s.stc with unparkSpent := false, faultLine := false }
    planLock := s.hpl.planLock, wait := s.hpl.decreaseWait.isSome, watch := s.crm.watch
    leaver := s.hoe.phase, release := s.rsq.phase, window := s.rsq.reholdWindow, completed := s.rsq.releaseCompleted
    abortFlag := s.rsq.abortFlag, abortTimer := s.rsq.abortFlagTimer
    parkCmd := s.mod.parkCmd, join := s.mod.join, role := s.suc.role }

/-- A record of a sensor, a notice, the set-up or the link is written, and no item of the core. -/
structure Input (s t : State) : Prop where
  core : core t = core s
  pmem : s.suc.pmem = .fault → t.suc.pmem = .fault

/-- The transitions that a command begins of itself (R9, R13, R112, R130, R138, R142). -/
inductive Start (s : State) : State → Prop
  | timeUp (h : s.stc.state = .holding) : Start s (enterState .secured s)
  | driven (h : s.stc.state = .holding) : Start s (enterState .releasing s)
  | acknowledged (h : s.stc.state = .alarm) : Start s (enterState .secured s)
  | failed (h : exchanging s = true) : Start s (cancelExchange .idle s)
  | cause (c : AlarmCause) : Start s (takeAlarmCause c s)
  | lapsed (h : releaseInProgress s = true) : Start s (abortedBy .lapse s)

/-- One effect of the command `c`. -/
inductive Effect (c : Instr) (s : State) : State → Prop
  | input {t : State} (h : Input s t) : Effect c s t
  | quiet {t : State} (h : Quietly s t) : Effect c s t
  | raised (f : Flag) (h : f.sticky = true) : Effect c s (raiseFault f s)
  | cleared (q : DiagRequest) (f : Flag) (hc : c = .diagClear q) (hi : 24 ≤ q.item.toNat)
      (hf : allFlags[q.item.toNat - 24]? = some f) : Effect c s (putFault f false s)
  | holdTimerStops : Effect c s { s with stc := { s.stc with holdTimer := none } }
  | limitMarked (h : s.stc.state = .leaving) : Effect c s { s with stc := { s.stc with limitMark := true } }
  | lowered : Effect c s { s with stc := { s.stc with loweringTimer := none } }
  | waitStops : Effect c s { s with hpl := { s.hpl with decreaseWait := none } }
  | abortFlagClears : Effect c s { s with rsq := { s.rsq with abortFlag := false, abortFlagTimer := none } }
  | windowCloses : Effect c s { s with rsq := s.rsq.closeWindow }
  | turns (h : s.stc.state = .releasing) : Effect c s { s with rsq := s.rsq.takeTurn }
  | testJoins (h : s.stc.state = .service) : Effect c s (joinTo .test s)
  | counted : Effect c s (countAlarm s)
  | after {u : State} (h : Start s u) : Effect c s (afterMove u)
  | settled : Effect c s (settle s)

/-- Effects in a row. -/
abbrev Effects (c : Instr) : State → State → Prop := Relation.ReflTransGen (Effect c)

/-! ### What every effect keeps -/

/-- What a command's effects each keep, the command keeps. -/
theorem effects_keep {c : Instr} {P : State → Prop} (hP : ∀ s t, P s → Effect c s t → P t) {s t : State}
    (h : P s) (r : Effects c s t) : P t := by
  induction r with
  | refl => exact h
  | tail _ r ih => exact hP _ _ ih r

theorem Input.state {s t : State} (h : Input s t) : t.stc.state = s.stc.state := congrArg (fun x => x.stc.state) h.core

theorem effect_failed {c : Instr} (s t : State) (h : s.stc.state = .failed) (e : Effect c s t) :
    t.stc.state = .failed := by
  cases e with
  | input i => exact i.state.trans h
  | quiet q => exact (state_of_standing q.standing).trans h
  | testJoins _ => exact nearly_state s _ h (nearly_joinTo _ _)
  | after st =>
    refine kept_failed.afterMove ?_
    cases st with
    | timeUp hs | driven hs | acknowledged hs => simp [h] at hs
    | failed hx => simp [exchanging_iff, h] at hx
    | cause c => exact failed_takeAlarmCause c h
    | lapsed hr => simp [releaseInProgress_iff, h] at hr
  | settled => exact kept_failed.settle h
  | _ => exact h

theorem effect_grounded {c : Instr} (s t : State) (h : Grounded s) (e : Effect c s t) : Grounded t := by
  cases e with
  | input i =>
    refine ⟨by rw [i.state]; exact h.1, h.2.imp (fun x => ?_) i.pmem⟩
    rwa [show t.suc.role = s.suc.role from congrArg Core.role i.core]
  | quiet q => exact nearly_grounded s t h q.toNearly
  | testJoins _ => exact nearly_grounded s _ h (nearly_joinTo _ _)
  | after st =>
    refine kept_grounded.afterMove ?_
    cases st with
    | timeUp hs | driven hs | acknowledged hs => rcases h.1 with h | h <;> simp [h] at hs
    | failed hx => rcases h.1 with h | h <;> simp [exchanging_iff, h] at hx
    | cause c => exact grounded_takeAlarmCause c h
    | lapsed hr => rcases h.1 with h | h <;> simp [releaseInProgress_iff, h] at hr
  | settled => exact kept_grounded.settle h
  | _ => exact h

/-- A sticky flag stays under every effect but its own clearing (R21, R22). -/
theorem effect_flag {c : Instr} {f : Flag} (hf : f.sticky = true)
    (hc : ∀ q, c = .diagClear q → ∀ i, allFlags[i]? = some f → q.item.toNat ≠ 24 + i) (s t : State)
    (h : s.stc.faults.get f = true) (e : Effect c s t) : t.stc.faults.get f = true := by
  cases e with
  | input i => rwa [show t.stc.faults = s.stc.faults from congrArg (fun x => x.stc.faults) i.core]
  | quiet q => rwa [q.flag hf]
  | raised g _ =>
    by_cases hg : f = g
    · subst hg; exact FaultSet.get_put_self _ _ _
    · exact (FaultSet.get_put_of_ne _ _ hg).trans h
  | cleared q g hq hi hg =>
    have hne : f ≠ g := by
      rintro rfl
      exact hc q hq _ hg (by omega)
    exact (FaultSet.get_put_of_ne _ _ hne).trans h
  | testJoins _ => exact nearly_flag hf s _ h (nearly_joinTo _ _)
  | after st =>
    refine (kept_flag hf).afterMove ?_
    cases st with
    | timeUp _ | driven _ | acknowledged _ => exact (faults_enterState _ _ hf).trans h
    | failed _ => exact (faults_returnToOrigin _ hf).trans h
    | cause c => exact (faults_takeAlarmCause c _ hf).trans h
    | lapsed _ => exact (faults_enterState _ _ hf).trans h
  | settled => exact (kept_flag hf).settle h
  | _ => exact h

theorem records_of_core {s t : State} (h : RecordsRight s) (e : core t = core s) : RecordsRight t := by
  have e0 : t.stc.state = s.stc.state := congrArg (fun x => x.stc.state) e
  have e1 : t.hpl.planLock = s.hpl.planLock := congrArg Core.planLock e
  have e2 : t.rsq.phase = s.rsq.phase := congrArg Core.release e
  have e3 : t.crm.watch = s.crm.watch := congrArg Core.watch e
  have e4 : t.hoe.phase = s.hoe.phase := congrArg Core.leaver e
  have e6 : t.stc.unparkMark = s.stc.unparkMark := congrArg (fun x => x.stc.unparkMark) e
  have e7 : t.stc.limitMark = s.stc.limitMark := congrArg (fun x => x.stc.limitMark) e
  have e8 : t.stc.faults = s.stc.faults := congrArg (fun x => x.stc.faults) e
  have e10 : t.stc.holdTimer = s.stc.holdTimer := congrArg (fun x => x.stc.holdTimer) e
  have e11 : t.hpl.decreaseWait.isSome = s.hpl.decreaseWait.isSome := congrArg Core.wait e
  have e12 : t.rsq.reholdWindow = s.rsq.reholdWindow := congrArg Core.window e
  have e13 : t.rsq.releaseCompleted = s.rsq.releaseCompleted := congrArg Core.completed e
  have e14 : t.rsq.abortFlag = s.rsq.abortFlag := congrArg Core.abortFlag e
  have e14' : t.rsq.abortFlagTimer = s.rsq.abortFlagTimer := congrArg Core.abortTimer e
  have e15 : t.stc.lifted = s.stc.lifted := congrArg (fun x => x.stc.lifted) e
  have e15' : t.stc.loweringTimer = s.stc.loweringTimer := congrArg (fun x => x.stc.loweringTimer) e
  unfold RecordsRight
  rwa [e0, e1, e2, e3, e4, e6, e7, e8, e10, e11, e12, e13, e14, e14', e15, e15']

theorem start_records {s t : State} (h : RecordsRight s) (st : Start s t) : RecordsRight t := by
  cases st with
  | timeUp hs | driven hs | acknowledged hs =>
    exact records_enterState (.of_records h (.inr (.inr ⟨by simp [hs], by simp⟩)))
  | failed _ => exact records_cancelExchange h _ (.inl rfl)
  | cause c => exact records_takeAlarmCause h c
  | lapsed hr => exact records_abortedBy h _ hr

theorem effect_records {c : Instr} (s t : State) (h : RecordsRight s) (e : Effect c s t) : RecordsRight t := by
  cases e with
  | input i => exact records_of_core h i.core
  | quiet q => exact nearly_records s t h q.toNearly
  | testJoins _ => exact nearly_records s _ h (nearly_joinTo _ _)
  | after st => exact kept_records.afterMove (start_records h st)
  | settled => exact kept_records.settle h
  | windowCloses => exact records_closeWindow h
  | counted => exact h
  | raised f hf =>
    obtain ⟨h1, h2, h3, h4, h5, h6, h7, h8, h9, h10, h11, h12, h13, h14, h15⟩ := h
    exact ⟨h1, h2, h3, h4, h5, h6, h7, fun x => h8 (by cases f <;> first | exact x | cases hf),
      fun x => h9 (by cases f <;> first | exact x | cases hf), h10, h11, h12, h13, h14, h15⟩
  | cleared q f =>
    obtain ⟨h1, h2, h3, h4, h5, h6, h7, h8, h9, h10, h11, h12, h13, h14, h15⟩ := h
    exact ⟨h1, h2, h3, h4, h5, h6, h7, fun x => h8 (by cases f <;> first | exact x | cases x),
      fun x => h9 (by cases f <;> first | exact x | cases x), h10, h11, h12, h13, h14, h15⟩
  | holdTimerStops =>
    obtain ⟨h1, h2, h3, h4, h5, h6, h7, h8, h9, -, h11, h12, h13, h14, h15⟩ := h
    exact ⟨h1, h2, h3, h4, h5, h6, h7, h8, h9, (fun x => by cases x), h11, h12, h13, h14, h15⟩
  | limitMarked hs =>
    obtain ⟨h1, h2, h3, h4, h5, h6, -, h8, h9, h10, h11, h12, h13, h14, h15⟩ := h
    exact ⟨h1, h2, h3, h4, h5, h6, fun _ => hs, h8, h9, h10, h11, h12, h13, h14, h15⟩
  | lowered =>
    obtain ⟨h1, h2, h3, h4, h5, h6, h7, h8, h9, h10, h11, h12, h13, h14, -⟩ := h
    exact ⟨h1, h2, h3, h4, h5, h6, h7, h8, h9, h10, h11, h12, h13, h14, fun _ => rfl⟩
  | waitStops =>
    obtain ⟨h1, h2, h3, h4, h5, h6, h7, h8, h9, h10, -, h12, h13, h14, h15⟩ := h
    exact ⟨h1, h2, h3, h4, h5, h6, h7, h8, h9, h10, (fun x => by cases x), h12, h13, h14, h15⟩
  | abortFlagClears =>
    obtain ⟨h1, h2, h3, h4, h5, h6, h7, h8, h9, h10, h11, h12, h13, -, h15⟩ := h
    exact ⟨h1, h2, h3, h4, h5, h6, h7, h8, h9, h10, h11, h12, h13, rfl, h15⟩
  | turns hs =>
    obtain ⟨h1, h2, h3, h4, h5, h6, h7, h8, h9, h10, h11, h12, h13, h14, h15⟩ := h
    exact ⟨h1, by simp [Rsq.takeTurn, hs], h3, h4, h5, h6, h7, h8, h9, h10, h11, h12, h13, h14, h15⟩

theorem effect_fitted {c : Instr} (s t : State) (h : Fitted s) (e : Effect c s t) : Fitted t := by
  cases e with
  | input i =>
    refine h.of_same i.state (congrArg (fun x => x.stc.origin) i.core) ?_ (congrArg Core.parkCmd i.core)
      (congrArg Core.join i.core)
    rw [show t.hoe.phase = s.hoe.phase from congrArg Core.leaver i.core]
  | quiet q => exact fitted_of_nearly h q.toNearly q.outfit
  | testJoins hs =>
    have q := (nearly_joinTo .test s).standing
    refine ⟨fun b hb => ?_, .inr ⟨(state_of_standing q).trans hs, join_joinTo _ _⟩⟩
    rw [state_of_standing q, hs] at hb
    cases hb
  | after _ => exact fitted_afterMove _
  | settled => exact settle_fitted h
  | _ => exact h

end Sys2Proof.Machine
end

section
/-! PROOFS. Every command but RESET is a run of effects (`exec_effects`), and the statements that follow for every command
and every step. -/

namespace Sys2Proof.Machine

set_option Elab.async false

variable {c : Instr}

theorem effects_input {s t : State} (h : core t = core s) (hp : t.suc.pmem = s.suc.pmem) : Effects c s t :=
  .single (.input ⟨h, fun x => hp.trans x⟩)
/-- Effects that follow the writing of a record. -/
theorem effects_of_input {s t u : State} (r : Effects c t u) (h : core t = core s) (hp : t.suc.pmem = s.suc.pmem) :
    Effects c s u := .trans (effects_input h hp) r
theorem effects_quiet {s t : State} (h : Quietly s t) : Effects c s t := .single (.quiet h)
theorem effects_raise (f : Flag) (h : f.sticky = true) (s : State) : Effects c s (raiseFault f s) := .single (.raised f h)

/-- Settling ends every run. -/
theorem effects_settle {s t : State} (h : Effects c s t) : Effects c s (settle t) := h.tail .settled

theorem effects_ite {s t u : State} {p : Prop} [Decidable p] (h1 : p → Effects c s t) (h2 : ¬ p → Effects c s u) :
    Effects c s (if p then t else u) := by
  split
  · exact h1 ‹_›
  · exact h2 ‹_›

/-! ### MOD -/

/-- A result of MOD that keeps its outfit is taken into the state. -/
theorem effects_takeModResult (r : ModResult) (s : State) (ho : r.mod.outfit = s.mod.outfit) :
    Effects c s (takeModResult r s) := by
  have h1 : Effects c s { s with mod := r.mod, agenda := { s.agenda with ends := s.agenda.ends ++ r.ended.toList } } := by
    refine effects_input ?_ rfl
    simp only [core]
    congr 1
    · exact congrArg Outfit.parkCmd ho
    · exact congrArg Outfit.join ho
  unfold takeModResult
  dsimp only
  refine effects_ite (fun _ => .trans ?_ (effects_raise _ rfl _)) (fun _ => ?_)
  all_goals exact effects_ite (fun _ => h1.trans (effects_raise _ rfl _)) (fun _ => h1)

theorem effects_faultStep (s : State) : Effects c s (faultStep s) := effects_takeModResult _ s (by simp)

theorem effects_appendSteps (x : Source) (l : List Step) (s : State) : Effects c s (appendSteps x l s) :=
  effects_takeModResult _ s (by simp)

/-! ### Start-up and the sensors -/

theorem effects_takeParameters (w : List Word16) (s : State) (h : s.suc.pmem = .reading) :
    Effects c s (takeParameters w s) := by
  have hm (x : Bool) (a : AxleParams) (n : Word32) (m : Mod) :
      (m.springsAtStart x a n).parkCmd = m.parkCmd ∧ (m.springsAtStart x a n).join = m.join := by
    unfold Mod.springsAtStart
    split
    · exact ⟨rfl, rfl⟩
    · split <;> exact ⟨rfl, rfl⟩
  refine .single (.input ⟨?_, fun x => by rw [h] at x; cases x⟩)
  simp only [core, takeParameters, askPlan, askExits, hm]

theorem effects_rejectParameters (w : List Word16) (s : State) : Effects c s (rejectParameters w s) := by
  have h : Effects c s { s with suc := { s.suc with pmem := .fault, readTimer := none, words := w } } :=
    .single (.input ⟨rfl, fun _ => rfl⟩)
  exact h.trans (effects_raise _ rfl _)

theorem watch_slipSample (b : Bool) (a : Option Int) (k : Crm) : (k.slipSample b a).watch = k.watch := by
  unfold Crm.slipSample
  dsimp only
  (repeat' split) <;> rfl

theorem effects_slipComparison (s : State) : Effects c s (slipComparison s) := by
  have hw := watch_slipSample (looksForSlip s) s.glu.accAverage s.crm
  unfold slipComparison
  dsimp only
  split <;> exact effects_input (by simp only [core, reportRollaway, hw]) rfl

theorem effects_sampleAccelerometer (r : Option Int) (s : State) : Effects c s (sampleAccelerometer r s) := by
  cases r with
  | some x => exact effects_input rfl rfl
  | none =>
    have h : Effects c s { s with glu := s.glu.notAnswered } := effects_input rfl rfl
    exact h.trans (effects_raise _ rfl _)

theorem effects_sampleLoad (raw : BitVec 12) (s : State) : Effects c s (sampleLoad raw s) := by
  have h : Effects c s { s with glu := s.glu.loadSample raw s.stc.faults.loadSensor s.suc.axle } := effects_input rfl rfl
  exact effects_ite (fun _ => h.trans (effects_raise _ rfl _)) (fun _ => h)

theorem effects_takePressure (p : Nat) (s : State) : Effects c s (takePressure p s) := by
  have h1 : Effects c s (runLimitTimer { s with mod := { s.mod with pMeas := p } }) := effects_input rfl rfl
  have h2 (u : State) : Effects c u (planEvent false (sync u)) :=
    effects_quiet ((quietly_sync u).trans (quietly_planEvent _ _))
  have h3 (u : State) : Effects c u (askRamp u) := effects_input rfl rfl
  exact ((h1.trans (h2 _)).trans (effects_takeModResult _ _ (by simp))).trans (h3 _)

theorem effects_askPlan (s : State) : Effects c s (askPlan s) := effects_input rfl rfl
theorem effects_askExits (s : State) : Effects c s (askExits s) := effects_input rfl rfl

theorem watch_pulse (w : Wheel) (d : Direction) (a : Option AxleParams) (n : Nat) (k : Crm) :
    ((k.pulse w d a).creepTest n).watch = k.watch := by
  unfold Crm.creepTest
  split <;> rfl

theorem effects_pulse (w : Wheel) (d : Direction) (s : State) :
    Effects c s (pulseReports s (rollawayTest (pulse w d s))) := by
  have hw := watch_pulse w d s.suc.axle s.suc.vehicle.creepThreshold s.crm
  unfold rollawayTest
  split <;> exact effects_input (by simp only [core, pulseReports, reportRollaway, pulse, hw]) rfl

/-! ### The alarm and the frames -/

/-- STC takes a cause, and what follows an entry. -/
theorem effects_takeAlarmCause (a : AlarmCause) (s : State) :
    Effects c s (if s.stc.state.alarmable then afterMove (takeAlarmCause a s) else takeAlarmCause a s) := by
  refine effects_ite (fun _ => .single (.after (.cause _))) (fun h => ?_)
  rw [show takeAlarmCause a s = countAlarm s from if_neg h]
  exact .single .counted

theorem effects_deliverAlarm (n : StationNo) (p : List Byte) (s : State) : Effects c s (deliverAlarm n p s) := by
  unfold deliverAlarm
  split
  · have h : Effects c s (callStatus s) := effects_input rfl rfl
    exact h.trans (effects_takeAlarmCause _ (callStatus s))
  · exact effects_input rfl rfl

theorem effects_receiveFrom (o : Origin) (alarm : Option (List Byte)) (deliver : State → State) (s : State)
    (h : ∀ t, Effects c t (deliver t)) : Effects c s (receiveFrom o alarm deliver s) := by
  have heard : Effects c s { s with lnk := s.lnk.heard } := effects_input rfl rfl
  have foreign (u : State) : Effects c u (takeForeign alarm u) := by
    have h1 : Effects c u { u with ptb := { u.ptb with lastDuplicate := some u.now } } := effects_input rfl rfl
    unfold takeForeign
    dsimp only
    split
    · exact (h1.trans (effects_raise _ rfl _)).trans (effects_deliverAlarm _ _ _)
    · exact h1.trans (effects_raise _ rfl _)
  unfold receiveFrom
  exact effects_ite
    (fun _ => effects_ite (fun _ => effects_settle (heard.trans (foreign _))) (fun _ => heard.trans (h _)))
    (fun _ => .refl)

theorem effects_countUnclaimed (s : State) : Effects c s (countUnclaimed s) := effects_input rfl rfl

/-! ### The received notices -/

theorem effects_cabReports (x : CabChange) (s : State) : Effects c s (cabReports x s) := by
  have h : Effects c s (if x.handControls then setPlanPending s else s) :=
    effects_ite (fun _ => effects_quiet (quietly_setPlanPending s)) (fun _ => .refl)
  exact h.tail (.input ⟨rfl, id⟩)

theorem effects_armAcknowledgement (s : State) : Effects c s (armAcknowledgement s) :=
  effects_ite (fun _ => effects_input rfl rfl) (fun _ => .refl)

theorem effects_testAcknowledgement (s : State) : Effects c s (testAcknowledgement s) := by
  refine effects_ite (fun h => ?_) (fun _ => .refl)
  simp only [Bool.and_eq_true, decide_eq_true_eq] at h
  have h1 : Effects c s { s with
      alarm := { s.alarm with ackPeers := alarmPeers s, ackArmed := false }, lnk := { s.lnk with alarmSlot := none } } :=
    effects_input rfl rfl
  exact h1.tail (.after (.acknowledged h.1.1))

theorem effects_takeCab (p : List Byte) (s : State) : Effects c s (takeCab p s) := by
  have h : Effects c s (writeCab p s) := effects_input rfl rfl
  exact effects_settle (((h.trans (effects_cabReports _ _)).trans (effects_armAcknowledgement _)).trans
    (effects_testAcknowledgement _))

theorem effects_withDrum (d : DrumRecord) (s : State) : Effects c s (withDrum d s) := by
  have h : Effects c s { s with ptb := { s.ptb with drum := d } } := effects_input rfl rfl
  exact effects_settle (effects_ite (fun _ => h.trans (effects_askPlan _)) (fun _ => h))

theorem effects_takeStatus (n : StationNo) (e : Entry) (s : State) : Effects c s (takeStatus n e s) := by
  unfold takeStatus endReplier
  dsimp only
  refine effects_settle ?_
  split <;> exact effects_input rfl rfl

theorem effects_dropEntry (n : StationNo) (e : Entry) (s : State) : Effects c s (dropEntry n e s) :=
  effects_settle (effects_input rfl rfl)

theorem effects_answerNow (m : StationNo) (b : Bool) (s : State) : Effects c s (answerNow m b s) := by
  unfold answerNow
  split
  · exact effects_input rfl rfl
  · exact .refl

theorem effects_takeRequest (m : StationNo) (q : RequestBody) (s : State) : Effects c s (takeRequest m q s) := by
  unfold takeRequest
  dsimp only
  refine effects_settle ?_
  split
  · exact effects_input rfl rfl
  · exact effects_of_input (effects_answerNow _ _ _) rfl rfl

/-- An exchange that fails, and what follows it (R112). -/
theorem effects_failExchange {s : State} (h : exchanging s = true) : Effects c s (afterMove (failExchange s)) := by
  have h1 : Effects c s { s with hoe := { s.hoe with retryWait := some retryPeriod } } := effects_input rfl rfl
  exact (h1.trans (effects_raise .handoffFailed rfl _)).tail (.after (.failed h))

theorem effects_takeReply {s : State} (q : ReplyBody) (h : exchanging s = true) : Effects c s (takeReply q s) := by
  have h1 : Effects c s { s with hoe := { s.hoe with
      replies := s.hoe.replies.set q.replier (some { answer := q.answer, force := q.force }) } } := effects_input rfl rfl
  exact effects_settle (effects_ite (fun _ => h1.trans (effects_failExchange h)) (fun _ => h1.tail (.input ⟨rfl, id⟩)))

theorem effects_takeCancel (m : StationNo) (s : State) : Effects c s (takeCancel m s) :=
  effects_settle (effects_input rfl rfl)

theorem effects_takeConfig (p : List Byte) (s : State) : Effects c s (takeConfig p s) := by
  have h : Effects c s (askPlan (askExits { s with suc := s.suc.accept p })) := effects_input rfl rfl
  refine effects_ite (fun _ => effects_ite (fun _ => .refl) (fun _ => ?_)) (fun _ => effects_ite (fun _ => ?_) (fun _ => ?_))
  · exact effects_settle ((effects_countUnclaimed s).trans (effects_raise _ rfl _))
  · exact effects_settle (effects_ite (fun _ => h) (fun _ => h.trans (effects_raise _ rfl _)))
  · exact effects_countUnclaimed s

/-! ### The link -/

theorem effects_loseLink (s : State) : Effects c s (loseLink s) := by
  have h : Effects c s { s with lnk := { s.lnk with link := some .lost, recoveryAck := false, recoveryFrames := 0 } } :=
    effects_input rfl rfl
  exact h.trans (effects_raise _ rfl _)

theorem effects_failAttempt (s : State) : Effects c s (failAttempt s) := by
  have h : Effects c s { s with lnk := s.lnk.fail } := effects_input rfl rfl
  refine h.trans (effects_ite (fun _ => .refl) (fun _ => effects_ite (fun _ => effects_loseLink _) (fun _ => ?_)))
  exact effects_ite (fun _ => effects_input rfl rfl) (fun _ => .refl)

/-! ### Diagnostics -/

theorem effects_answer (q : DiagRequest) (r : DiagResult) (l : Option Bool) (v : Option Word32) (s : State) :
    Effects c s (answer q r l v s) := effects_input rfl rfl

theorem effects_turnAway (q : DiagRequest) (s : State) : Effects c s (turnAway q s) := effects_answer _ _ _ _ s

theorem effects_diagDeliver (q : DiagRequest) (f : State → State) (s : State) (h : ∀ t, Effects c t (f t)) :
    Effects c s (diagDeliver q f s) :=
  effects_receiveFrom _ _ _ s (fun t => effects_ite (fun _ => h t) (fun _ => effects_countUnclaimed t))

theorem effects_readItem (q : DiagRequest) (s : State) : Effects c s (readItem q s) := by
  unfold readItem
  split
  · split <;> exact effects_answer _ _ _ _ s
  · split <;> exact effects_answer _ _ _ _ s

theorem effects_clearItem (q : DiagRequest) (hc : c = .diagClear q) (s : State) : Effects c s (clearItem q s) := by
  unfold clearItem
  split
  · rename_i f hf
    split at hf
    · rename_i hi
      refine effects_settle (.trans (effects_ite (fun _ => effects_ite (fun _ => .refl) (fun _ => ?_)) (fun _ => .refl))
        (effects_answer _ _ _ _ _))
      exact .single (.cleared q f hc hi hf)
    · cases hf
  · exact effects_turnAway q s

theorem effects_takeTest (q : DiagRequest) (s : State) : Effects c s (takeTest q s) := by
  refine effects_ite (fun h => effects_settle ?_) (fun _ => effects_answer _ _ _ _ s)
  simp only [testAllowed, Bool.and_eq_true, decide_eq_true_eq] at h
  have h1 : Effects c s (appendSteps .test [testStep q] (joinTo .test s)) :=
    .trans (.single (.testJoins h.1.1.1)) (effects_appendSteps _ _ _)
  exact effects_ite (fun _ => h1.trans (effects_answer _ _ _ _ _)) (fun _ => h1.trans (effects_answer _ _ _ _ _))

theorem effects_readRecord (q : DiagRequest) (s : State) : Effects c s (readRecord q s) := by
  have cursor (k : Cursor) (u : State) : Effects c u (answerFromCursor q k u) := by
    unfold answerFromCursor
    split
    · exact effects_input rfl rfl
    · exact effects_answer _ _ _ _ u
  refine effects_ite (fun _ => effects_ite (fun _ => ?_) (fun _ => ?_)) (fun _ => effects_turnAway q s)
  · exact effects_of_input (cursor _ (openCursor _ s)) rfl rfl
  · split
    · exact effects_ite (fun _ => cursor _ s) (fun _ => effects_answer _ _ _ _ s)
    · exact effects_answer _ _ _ _ s

/-! ### The timers -/

theorem effects_holdTimeReached (s : State) : Effects c s (holdTimeReached s) := by
  unfold holdTimeReached
  split
  · rename_i h; exact .single (.after (.timeUp h))
  · rename_i h; exact .single (.limitMarked h)
  · exact .refl

theorem effects_decreaseWaitOver (s : State) : Effects c s (decreaseWaitOver s) := by
  have h1 : Effects c s { s with hpl := { s.hpl with decreaseWait := none } } := .single .waitStops
  refine effects_ite (fun h => h1.trans (effects_quiet (quietly_submitTarget _ ?_))) (fun _ => h1)
  simp only [Bool.and_eq_true, Bool.or_eq_true, decide_eq_true_eq] at h
  exact h.1

theorem effects_nextAttempt {s : State} (h : exchanging s = true) : Effects c s (nextAttempt s) :=
  effects_ite (fun _ => effects_input rfl rfl) (fun _ => effects_failExchange h)

theorem effects_abortRelease {s : State} (h : releaseInProgress s = true) :
    Effects c s (abortRelease .lapse s) := .single (.after (.lapsed h))

/-! ### Every command -/

/-- Every command but RESET is a run of effects. -/
theorem exec_effects (c : Instr) (s : State) (h : notReset c = true) : ∃ t, exec c s = .next t ∧ Effects c s t := by
  cases c with
  | reset p => cases h
  | parameterMemoryReadEnd bytes ending =>
    refine ⟨_, rfl, effects_ite (fun hr => effects_settle (effects_ite (fun _ => ?_) (fun _ => ?_))) (fun _ => .refl)⟩
    · exact effects_takeParameters _ s hr
    · exact effects_rejectParameters _ s
  | configWaitExpiry =>
    exact ⟨_, rfl, effects_ite (fun _ => effects_settle (effects_input rfl rfl)) (fun _ => .refl)⟩
  | inhibitSample a =>
    exact ⟨_, rfl, effects_ite (fun _ => effects_input rfl rfl) (fun _ => effects_settle (effects_input rfl rfl))⟩
  | accelerometerSample r =>
    exact ⟨_, rfl, effects_settle (((effects_sampleAccelerometer r s).trans (effects_slipComparison _)).trans
      (effects_askPlan _))⟩
  | loadSample raw => exact ⟨_, rfl, effects_settle ((effects_sampleLoad raw s).trans (effects_askPlan _))⟩
  | chamberPressureSample raw =>
    refine ⟨_, rfl, effects_settle (effects_ite (fun _ => ?_) (fun _ => effects_takePressure _ s))⟩
    exact ((effects_faultStep s).trans (effects_raise _ rfl _)).trans (effects_askPlan _)
  | supplySample raw =>
    have h1 : Effects (.supplySample raw) s { s with mod := s.mod.sampleSupply raw } := effects_input rfl rfl
    exact ⟨_, rfl, effects_settle
      (.trans (effects_ite (fun _ => h1.trans (effects_raise _ rfl _)) (fun _ => h1)) (effects_askPlan _))⟩
  | valveDriverFault d r => exact ⟨_, rfl, effects_settle ((effects_faultStep s).trans (effects_raise _ rfl _))⟩
  | wheelPulse w d => exact ⟨_, rfl, effects_settle (effects_pulse w d s)⟩
  | standstillTimerExpiry =>
    exact ⟨_, rfl, effects_ite (fun _ => effects_settle (effects_input rfl rfl)) (fun _ => .refl)⟩
  | vehicleStationaryTimerExpiry =>
    exact ⟨_, rfl, effects_ite (fun _ => effects_settle (effects_input rfl rfl)) (fun _ => .refl)⟩
  | springApplyTimerExpiry =>
    have h1 : Effects .springApplyTimerExpiry s { s with mod := s.mod.springsApplied s.suc.spring } := effects_input rfl rfl
    exact ⟨_, rfl, effects_ite
      (fun _ => effects_settle (effects_ite (fun _ => h1.trans (effects_askPlan _)) (fun _ => h1))) (fun _ => .refl)⟩
  | holdTimeTimerExpiry =>
    exact ⟨_, rfl, effects_ite
      (fun _ => effects_settle (.trans (.single .holdTimerStops) (effects_holdTimeReached _))) (fun _ => .refl)⟩
  | loweringTimerExpiry =>
    exact ⟨_, rfl, effects_ite
      (fun _ => effects_settle (.trans (.single .lowered) (effects_askExits _))) (fun _ => .refl)⟩
  | plausibilityTimerExpiry =>
    exact ⟨_, rfl, effects_ite
      (fun _ => effects_settle (effects_of_input (effects_raise .gradeSensor rfl _) rfl rfl)) (fun _ => .refl)⟩
  | limitTimerExpiry =>
    exact ⟨_, rfl, effects_ite (fun _ => effects_settle (effects_quiet (quietly_setLimited _ s))) (fun _ => .refl)⟩
  | decreaseWaitExpiry =>
    exact ⟨_, rfl, effects_ite
      (fun _ => effects_settle (.trans (effects_decreaseWaitOver s) (effects_input rfl rfl))) (fun _ => .refl)⟩
  | cabNotice o p =>
    exact ⟨_, rfl, effects_receiveFrom _ _ _ s
      (fun t => effects_ite (fun _ => effects_takeCab p t) (fun _ => effects_countUnclaimed t))⟩
  | cabRecordStaling =>
    refine ⟨_, rfl, effects_ite (fun _ => effects_settle ?_) (fun _ => .refl)⟩
    exact effects_of_input (.trans (effects_cabReports _ _) (effects_armAcknowledgement _)) rfl rfl
  | drumNotice o p =>
    exact ⟨_, rfl, effects_receiveFrom _ _ _ s
      (fun t => effects_ite (fun _ => effects_withDrum _ t) (fun _ => effects_countUnclaimed t))⟩
  | drumRecordStaling => exact ⟨_, rfl, effects_ite (fun _ => effects_withDrum _ s) (fun _ => .refl)⟩
  | statusNotice o p =>
    refine ⟨_, rfl, effects_receiveFrom _ _ _ s (fun t => ?_)⟩
    split
    · exact effects_takeStatus _ _ t
    · exact effects_countUnclaimed t
  | entryStalenessDeadline n => exact ⟨_, rfl, effects_ite (fun _ => effects_dropEntry _ _ s) (fun _ => .refl)⟩
  | entryAbsent n => exact ⟨_, rfl, effects_ite (fun _ => effects_dropEntry _ _ s) (fun _ => .refl)⟩
  | alarmNotice o p =>
    refine ⟨_, rfl, effects_receiveFrom _ _ _ s (fun t => ?_)⟩
    split
    · exact effects_settle (effects_deliverAlarm _ p t)
    · exact effects_countUnclaimed t
  | handoffRequest o b =>
    refine ⟨_, rfl, effects_receiveFrom _ _ _ s (fun t => ?_)⟩
    split
    · exact effects_ite (fun _ => effects_ite (fun _ => effects_takeRequest _ _ t) (fun _ => .refl))
        (fun _ => effects_countUnclaimed t)
    · exact effects_countUnclaimed t
  | handoffReply o b =>
    refine ⟨_, rfl, effects_receiveFrom _ _ _ s (fun t => ?_)⟩
    split
    · refine effects_ite (fun _ => effects_ite (fun hx => effects_takeReply _ ?_) (fun _ => .refl))
        (fun _ => effects_countUnclaimed t)
      simp only [Bool.and_eq_true] at hx
      exact hx.1.1
    · exact effects_countUnclaimed t
  | handoffCancel o b =>
    refine ⟨_, rfl, effects_receiveFrom _ _ _ s (fun t => ?_)⟩
    split
    · exact effects_ite (fun _ => effects_takeCancel _ t) (fun _ => effects_countUnclaimed t)
    · exact effects_countUnclaimed t
  | attemptTimerExpiry =>
    refine ⟨_, rfl, effects_ite (fun hx => effects_settle (effects_nextAttempt ?_)) (fun _ => .refl)⟩
    exact (Bool.and_eq_true_iff.1 hx).1
  | retryWaitExpiry =>
    exact ⟨_, rfl, effects_ite (fun _ => effects_settle (effects_input rfl rfl)) (fun _ => .refl)⟩
  | driveOffTimerExpiry =>
    have h1 : Effects .driveOffTimerExpiry s { s with rsq := { s.rsq with driveOffTimer := none } } := effects_input rfl rfl
    exact ⟨_, rfl, effects_ite
      (fun _ => effects_settle (effects_ite (fun hs => h1.tail (.after (.driven hs))) (fun _ => h1))) (fun _ => .refl)⟩
  | turnTimerExpiry =>
    have h1 : Effects .turnTimerExpiry s { s with rsq := { s.rsq with turnTimer := none } } := effects_input rfl rfl
    refine ⟨_, rfl, effects_ite (fun _ => effects_settle (effects_ite (fun hs => ?_) (fun _ => h1))) (fun _ => .refl)⟩
    simp only [Bool.and_eq_true, decide_eq_true_eq] at hs
    exact (h1.tail (.turns hs.1)).trans (effects_appendSteps _ _ _)
  | lapseTimerExpiry =>
    exact ⟨_, rfl, effects_ite
      (fun _ => effects_settle (effects_ite (fun hr => effects_abortRelease hr) (fun _ => effects_input rfl rfl)))
      (fun _ => .refl)⟩
  | abortFlagTimerExpiry =>
    exact ⟨_, rfl, effects_ite (fun _ => effects_settle (.single .abortFlagClears)) (fun _ => .refl)⟩
  | reholdWindowExpiry => exact ⟨_, rfl, effects_ite (fun _ => .single .windowCloses) (fun _ => .refl)⟩
  | configNotice o p =>
    exact ⟨_, rfl, effects_receiveFrom _ _ _ s
      (fun t => effects_ite (fun _ => effects_takeConfig p t) (fun _ => effects_countUnclaimed t))⟩
  | foreignOwnOriginFrame k p => exact ⟨_, rfl, effects_receiveFrom _ _ _ s (fun t => .refl)⟩
  | invalidFrame r => exact ⟨_, rfl, effects_ite (fun _ => effects_input rfl rfl) (fun _ => .refl)⟩
  | transmitStart =>
    refine ⟨_, rfl, effects_ite (fun _ => ?_) (fun _ => .refl)⟩
    split
    · exact effects_input rfl rfl
    · exact .refl
  | arbitrationLost => exact ⟨_, rfl, effects_input rfl rfl⟩
  | transmitError =>
    exact ⟨_, rfl, effects_ite (fun _ => effects_settle (effects_failAttempt s)) (fun _ => .refl)⟩
  | frameCompleted a =>
    refine ⟨_, rfl, ?_⟩
    split
    · exact effects_settle (effects_ite (fun _ => effects_input rfl rfl) (fun _ => effects_failAttempt s))
    · exact .refl
  | receiveTimerExpiry =>
    refine ⟨_, rfl, effects_ite (fun _ => effects_ite (fun _ => effects_input rfl rfl) (fun _ => ?_)) (fun _ => .refl)⟩
    exact effects_settle (effects_of_input (effects_loseLink _) rfl rfl)
  | announceTimerExpiry => exact ⟨_, rfl, effects_ite (fun _ => effects_input rfl rfl) (fun _ => .refl)⟩
  | diagRead q => exact ⟨_, rfl, effects_diagDeliver q _ s (effects_readItem q)⟩
  | diagClear q => exact ⟨_, rfl, effects_diagDeliver q _ s (effects_clearItem q rfl)⟩
  | diagWrite q =>
    exact ⟨_, rfl, effects_diagDeliver q _ s
      (fun t => effects_ite (fun _ => effects_takeTest q t) (fun _ => effects_turnAway q t))⟩
  | diagRecord q => exact ⟨_, rfl, effects_diagDeliver q _ s (effects_readRecord q)⟩
  | diagTest q => exact ⟨_, rfl, effects_diagDeliver q _ s (effects_takeTest q)⟩
  | diagUnknownOpcode q op => exact ⟨_, rfl, effects_diagDeliver q _ s (effects_answer _ _ _ _)⟩
  | unclaimedValidFrame f => exact ⟨_, rfl, effects_receiveFrom _ _ _ s effects_countUnclaimed⟩

end Sys2Proof.Machine
end

section
/-! PROOFS. The statements about every command and every step that the effects of a command give: FAILED and OFFLINE, the sticky
flags, the records and the valves (O8, O12 to O15); and the state after reset (O5, O6), the FAULT line (O18), time (O2). -/

namespace Sys2Proof.Machine

set_option Elab.async false

/-! ### Every command -/

/-- Settles O13: no effect of a command leaves FAILED. -/
theorem failedOnlyLeftByReset : Obligations.FailedOnlyLeftByReset := by
  intro c s h hc
  obtain ⟨t, ht, r⟩ := exec_effects c s hc
  exact ⟨t, ht, effects_keep effect_failed h r⟩

/-- Settles O14: every effect of a command keeps a grounded station grounded. -/
theorem faultyStartStaysOffline : Obligations.FaultyStartStaysOffline := by
  intro c s hs hf hc
  obtain ⟨t, ht, r⟩ := exec_effects c s hc
  exact ⟨t, ht, effects_keep effect_grounded ⟨hs, hf⟩ r⟩

/-- Settles O15: the one effect that clears a sticky flag is the clearing of a CLEAR. -/
theorem stickyFlagsStay : Obligations.StickyFlagsStay := by
  intro c s f hf h hc hq
  obtain ⟨t, ht, r⟩ := exec_effects c s hc
  exact ⟨t, ht, effects_keep (P := fun s => s.stc.faults.get f = true) (effect_flag hf hq) h r⟩

/-! ### Every step -/

/-- What a step takes from the queue or from the free values before its command. -/
def Fronted (s u : State) : Prop := u = { s with pending := u.pending, freeCount := u.freeCount }

/-- A step is a command, a reset or a millisecond. -/
theorem step_cases {s t : State} (h : step s = .next t) :
    (∃ c u, Fronted s u ∧ notReset c = true ∧ exec c u = .next t)
      ∨ (∃ x, Fronted (State.afterReset x) t) ∨ t = advance s := by
  have command {c : Instr} {u : State} (hu : Fronted s u) (hx : exec c u = .next t) :
      (∃ c u, Fronted s u ∧ notReset c = true ∧ exec c u = .next t) ∨ (∃ x, Fronted (State.afterReset x) t)
        ∨ t = advance s := by
    by_cases hc : notReset c = true
    · exact .inl ⟨c, u, hu, hc, hx⟩
    · cases c with
      | reset p =>
        cases hx
        exact .inr (.inl ⟨sampleStraps p, rfl⟩)
      | _ => exact absurd rfl hc
  unfold step at h
  split at h
  · exact command (by rfl) h
  · unfold idle at h
    split at h
    · exact command (by rfl) h
    · cases h
      exact .inr (.inr rfl)

/-- An invariant of the effects, of the state after reset and of a millisecond holds after every step. -/
theorem step_keeps {P : State → Prop} (hf : ∀ s u, Fronted s u → P s → P u) (he : ∀ c s t, P s → Effect c s t → P t)
    (hr : ∀ x, P (State.afterReset x)) (ha : ∀ s, P s → P (advance s)) {s t : State} (h : P s) (hs : step s = .next t) :
    P t := by
  rcases step_cases hs with ⟨c, u, hu, hc, hx⟩ | ⟨x, hx⟩ | rfl
  · obtain ⟨v, hv, r⟩ := exec_effects c u hc
    cases hv.symm.trans hx
    exact effects_keep (he c) (hf s u hu h) r
  · exact hf _ _ hx (hr x)
  · exact ha s h

theorem core_fronted {s u : State} (h : Fronted s u) : core u = core s := by rw [h]; rfl

theorem records_advance {s : State} (h : RecordsRight s) : RecordsRight (advance s) := by
  have hm (x : Timer) : (timerTick x).isSome = x.isSome := Option.isSome_map
  obtain ⟨h1, h2, h3, h4, h5, h6, h7, h8, h9, h10, h11, h12, h13, h14, h15⟩ := h
  refine ⟨h1, h2, h3, h4, h5, h6, h7, h8, h9, (fun hx => h10 (by rwa [← hm])),
    (fun hx => h11 (by rwa [← Option.isSome_map])), (fun hx => h12 (by rwa [← hm])), (hm _).trans h13,
    h14.trans (hm _).symm, fun hx => ?_⟩
  show timerTick s.stc.loweringTimer = none
  rw [h15 hx]
  rfl

theorem records_afterReset (x : Straps) : RecordsRight (State.afterReset x) := by
  refine ⟨?_, ?_, rfl, ?_, ?_, ?_, ?_, ?_, ?_, ?_, ?_, ?_, rfl, rfl, ?_⟩ <;> simp [State.afterReset]

theorem fitted_afterReset (x : Straps) : Fitted (State.afterReset x) := by
  refine ⟨fun b hb => ?_, .inl rfl⟩
  cases hb
  rfl

/-- Settles O12: every effect of a command keeps each record to its state. -/
theorem stepKeepsRecords : Obligations.StepKeepsRecords := fun _ _ h hs =>
  step_keeps (fun _ _ hu h => records_of_core h (core_fronted hu)) (fun _ => effect_records) records_afterReset
    (fun _ => records_advance) h hs

/-- Settles O8: every effect of a command keeps the park valve and the join as the state asks. -/
theorem stepKeepsValves : Obligations.StepKeepsValves := fun _ _ hp hj _ hs =>
  step_keeps (P := Fitted)
    (fun _ _ hu h => effect_fitted (c := .transmitStart) _ _ h (.input ⟨core_fronted hu, by rw [hu]; exact id⟩))
    (fun _ => effect_fitted) fitted_afterReset
    (fun s h => h.of_same (t := advance s) rfl rfl .rfl rfl rfl) ⟨hp, hj⟩ hs

/-! ### The FAULT line and reset -/

theorem faultLineOf_iff (s : State) :
    faultLineOf s = true ↔
      s.stc.state = .failed
        ∨ (s.stc.state = .offline ∧ (hasFault s .strapFault = true ∨ hasFault s .pmemFault = true))
        ∨ s.stc.state = .alarm
        ∨ hasFault s .shortfall = true
        ∨ (hasFault s .springShortfall = true ∧ s.stc.state = .secured
            ∧ (s.ptb.cab.fresh = false ∨ s.ptb.cab.content.ignition = false)) := by
  have hc : (!(cabNow s).ignition || !s.ptb.cab.fresh) = true
      ↔ (s.ptb.cab.fresh = false ∨ s.ptb.cab.content.ignition = false) := by
    unfold cabNow CabRecord.read
    cases s.ptb.cab.fresh <;> simp
  simp only [faultLineOf, Bool.or_eq_true, Bool.and_eq_true, decide_eq_true_eq, or_assoc, and_assoc] at hc ⊢
  rw [hc]
  rfl

/-- Settles O18: a settled state holds its FAULT line at what `levels` forms. -/
theorem faultLineFollows : Obligations.FaultLineFollows := by
  refine ⟨fun s h => ?_, fun x => decide_eq_true_iff⟩
  have hl : faultLineOf s = s.stc.faultLine := congrArg (fun x => x.stc.faultLine) h.2.2
  rw [← hl]
  exact faultLineOf_iff s

end Sys2Proof.Machine
end

section
/-! PROOFS. What a settled state agrees on (`Agree`), what does not touch it, and the statement that every step leaves a settled
state (O7). -/

namespace Sys2Proof.Machine

set_option Elab.async false

/-! ### What a settled state agrees on -/

/-- The derived values and the validity flags are those that their rules form. -/
structure Synced (s : State) : Prop where
  grade : gradeValidOf s = s.glu.gradeValid
  load : loadValidOf s = s.glu.loadValid
  entry : entryOf s (own s) = ownEntry s
  table : s.ptb.derive (own s) s.ptb.entries = s.ptb
  acknowledged : keptAcknowledged s.ptb.entries s.alarm.ackPeers = s.alarm.ackPeers

/-- So are the timers that follow a condition and the FAULT line. -/
structure Agree (s : State) : Prop extends Synced s where
  limit : limitTimerOf s = s.hpl.limitTimer
  driveOff : driveOffTimerOf s = s.rsq.driveOffTimer
  lapse : lapseTimerOf s = s.rsq.lapseTimer
  line : faultLineOf s = s.stc.faultLine

theorem synced_of_sync {s : State} (hs : sync s = s) : Synced s := by
  obtain ⟨hv, ht⟩ := refresh_of_sync hs
  have he : (refreshTable s).ptb.entries.get (own s) = ownEntry s := entryOf_own_refreshTable s
  have hp : s.ptb.derive (own s) (s.ptb.entries.set (own s) (ownEntry s)) = s.ptb := congrArg State.ptb ht
  rw [ht] at he
  rw [← he, Table.set_get] at hp
  have hk : keptAcknowledged (refreshTable s).ptb.entries s.alarm.ackPeers = s.alarm.ackPeers :=
    congrArg (fun x => x.alarm.ackPeers) ht
  rw [ht] at hk
  exact ⟨congrArg (fun x => x.glu.gradeValid) hv, congrArg (fun x => x.glu.loadValid) hv, he, hp, hk⟩

theorem Settled.agree {s : State} (h : Settled s) : Agree s := by
  obtain ⟨-, hs, hl⟩ := h
  exact ⟨synced_of_sync hs, congrArg (fun x => x.hpl.limitTimer) hl, congrArg (fun x => x.rsq.driveOffTimer) hl,
    congrArg (fun x => x.rsq.lapseTimer) hl, congrArg (fun x => x.stc.faultLine) hl⟩

/-- A state in agreement is brought up to date by nothing. -/
theorem Synced.sync {s : State} (h : Synced s) : sync s = s := by
  have hv : refreshValidity s = s := by
    rw [refreshValidity]
    simp [h.grade, h.load]
  have hp : s.ptb.derive (own s) (s.ptb.entries.set (own s) (ownEntry s)) = s.ptb := by
    have hset : s.ptb.entries.set (own s) (ownEntry s) = s.ptb.entries := by
      rw [← h.entry]
      exact Table.set_get _ _
    rw [hset, h.table]
  rw [Machine.sync, hv, refreshTable]
  simp [hp, h.acknowledged, h.entry]

theorem Agree.settled {s : State} (h : Agree s) (ha : s.agenda = {}) : Settled s := by
  refine ⟨ha, h.toSynced.sync, ?_⟩
  rw [levels]
  simp only [h.limit, h.driveOff, h.lapse, h.line, ← ha]

/-! ### What settled values are not formed from -/

/-- Only items that no settled value is formed from may differ: the queue, the count of free values, the link, the cursor, the
INHIBIT samples and the re-hold window. -/
def Aside (s t : State) : Prop :=
  t = { s with
    pending := t.pending, freeCount := t.freeCount, lnk := t.lnk, dgr := t.dgr
    suc := { s.suc with
      inhibitOlder := t.suc.inhibitOlder, inhibitLatest := t.suc.inhibitLatest, inhibit := t.suc.inhibit }
    rsq := { s.rsq with reholdWindow := t.rsq.reholdWindow, releaseCompleted := t.rsq.releaseCompleted } }

theorem Settled.aside {s t : State} (h : Settled s) (a : Aside s t) : Settled t := by
  obtain ⟨⟨h1, h2, h3, h4, h5⟩, h6, h7, h8, h9⟩ := h.agree
  rw [a]
  exact Agree.settled ⟨⟨h1, h2, h3, h4, h5⟩, h6, h7, h8, h9⟩ h.1

theorem settled_ite {p : Prop} [Decidable p] {s t : State} (h1 : p → Settled s) (h2 : ¬ p → Settled t) :
    Settled (if p then s else t) := by
  split
  · exact h1 ‹_›
  · exact h2 ‹_›

/-! ### Time -/

theorem timerWhile_tick {b : Bool} {n : Nat} {t : Timer} (h : timerWhile b n t = t) :
    timerWhile b n (timerTick t) = timerTick t := by
  cases b <;> cases t <;> simp_all [timerWhile, timerTick]

theorem agedEntries_self (self : StationNo) (t : Table Entry) : (agedEntries self t).get self = t.get self :=
  Table.get_set_self _ _ _

theorem agedEntries_of_ne {self n : StationNo} (t : Table Entry) (h : n ≠ self) :
    (agedEntries self t).get n = (t.get n).age := by
  rw [agedEntries, Table.get_set_of_ne _ _ h, Table.get_map]

/-- What an entry shows is as before where it does not turn on its age. -/
theorem agedEntries_shows {α : Type} (p : Entry → α) (hp : ∀ e, p e.age = p e) (self : StationNo) (t : Table Entry)
    (n : StationNo) : p ((agedEntries self t).get n) = p (t.get n) := by
  by_cases h : n = self
  · rw [h, agedEntries_self]
  · rw [agedEntries_of_ne t h, hp]

theorem anyPeer_aged (p : Entry → Bool) (hp : ∀ e, p e.age = p e) (self : StationNo) (t : Table Entry) :
    anyPeer self (agedEntries self t) p = anyPeer self t p := by
  simp only [anyPeer, agedEntries_shows p hp]

theorem poolOf_aged (self : StationNo) (t : Table Entry) : poolOf (agedEntries self t) = poolOf t := by
  simp only [poolOf, agedEntries_shows Entry.inPool (fun _ => rfl)]

theorem isFixed_aged (self : StationNo) (t : Table Entry) : isFixed self (agedEntries self t) = isFixed self t := by
  funext n
  simp only [isFixed, agedEntries_shows (fun e => e.flags.limited) (fun _ => rfl)]

theorem fixedOf_aged (self : StationNo) (t : Table Entry) : fixedOf self (agedEntries self t) = fixedOf self t := by
  rw [fixedOf, poolOf_aged, isFixed_aged, fixedOf]

theorem flexibleOf_aged (self : StationNo) (t : Table Entry) :
    flexibleOf self (agedEntries self t) = flexibleOf self t := by
  rw [flexibleOf, poolOf_aged, isFixed_aged, flexibleOf]

theorem eVehicleOf_aged (self : StationNo) (t : Table Entry) : eVehicleOf (agedEntries self t) = eVehicleOf t := by
  simp only [eVehicleOf, agedEntries_shows Entry.freshCreep (fun _ => rfl)]

theorem rawStationary_aged (self : StationNo) (t : Table Entry) :
    rawStationary self (agedEntries self t) = rawStationary self t := by
  simp only [rawStationary, agedEntries_self, anyPeer_aged (fun e => e.isFresh && !e.flags.standstill) (fun _ => rfl)]

theorem derive_tick {self : StationNo} {p : Ptb} (h : p.derive self p.entries = p) :
    (p.tick self).derive self (p.tick self).entries = p.tick self := by
  have h1 : poolOf p.entries = p.pool := congrArg Ptb.pool h
  have h2 : fixedOf self p.entries = p.fixedSet := congrArg Ptb.fixedSet h
  have h3 : flexibleOf self p.entries = p.flexibleSet := congrArg Ptb.flexibleSet h
  have h4 : (p.vehicleStationary && rawStationary self p.entries) = p.vehicleStationary :=
    congrArg Ptb.vehicleStationary h
  have h5 : timerWhile (rawStationary self p.entries && !p.vehicleStationary) 500 p.stationaryTimer = p.stationaryTimer :=
    congrArg Ptb.stationaryTimer h
  have h6 : eVehicleOf p.entries = p.eVehicle := by
    have := congrArg Ptb.eVehicle h
    rwa [show (p.derive self p.entries).eVehicle = eVehicleOf p.entries from rfl] at this
  have h7 : anyPeer self p.entries Entry.showsAlarm = p.alarmPeer := congrArg Ptb.alarmPeer h
  have h8 : anyPeer self p.entries Entry.showsAbort = p.abortPeer := congrArg Ptb.abortPeer h
  have h9 := anyPeer_aged Entry.showsAlarm (fun _ => rfl) self p.entries
  have h10 := anyPeer_aged Entry.showsAbort (fun _ => rfl) self p.entries
  simp only [Ptb.derive, Ptb.tick, poolOf_aged, fixedOf_aged, flexibleOf_aged, rawStationary_aged, eVehicleOf_aged, h9,
    h10, h1, h2, h3, h4, h6, h7, h8, timerWhile_tick h5]

theorem keptAcknowledged_aged (self : StationNo) (t : Table Entry) (a : Table Bool) :
    keptAcknowledged (agedEntries self t) a = keptAcknowledged t a := by
  simp only [keptAcknowledged, agedEntries_shows Entry.showsAlarm (fun _ => rfl)]

theorem settled_advance {s : State} (h : Settled s) : Settled (advance s) := by
  have g := h.agree
  have hf : (s.hpl.tick).limitTimer = timerTick s.hpl.limitTimer := rfl
  have hl : limitCondition (s.mod.tick) = limitCondition s.mod := by
    unfold limitCondition Mod.tick
    cases s.mod.inFlight <;> rfl
  refine Agree.settled ⟨⟨g.grade, g.load, ?_, derive_tick g.table, ?_⟩, ?_, ?_, ?_, g.line⟩ h.1
  · exact (agedEntries_self _ _).trans g.entry
  · exact (keptAcknowledged_aged _ _ _).trans g.acknowledged
  · show timerWhile (limitCondition s.mod.tick) 500 (timerTick s.hpl.limitTimer) = _
    rw [hl, timerWhile_tick g.limit]
    rfl
  · exact timerWhile_tick g.driveOff
  · exact timerWhile_tick g.lapse

end Sys2Proof.Machine
end

section
/-! PROOFS. Every step leaves a settled state (O7): a command ends by settling, or leaves aside what settled values are formed
from. -/

namespace Sys2Proof.Machine

set_option Elab.async false

/-! ### What leaves the settled values aside -/

theorem settled_countUnclaimed {s : State} (h : Settled s) : Settled (countUnclaimed s) := h.aside rfl

theorem settled_answer {q : DiagRequest} {r : DiagResult} {l : Option Bool} {v : Option Word32} {s : State} (h : Settled s) :
    Settled (answer q r l v s) := h.aside rfl

theorem settled_turnAway {q : DiagRequest} {s : State} (h : Settled s) : Settled (turnAway q s) := settled_answer h

/-- A received frame: of the own origin it settles, and another is delivered. -/
theorem settled_receiveFrom {o : Origin} {alarm : Option (List Byte)} {deliver : State → State} {s : State} (h : Settled s)
    (hd : ∀ t, Settled t → Settled (deliver t)) : Settled (receiveFrom o alarm deliver s) :=
  settled_ite (fun _ => settled_ite (fun _ => settle_settled _) (fun _ => hd _ (h.aside rfl))) (fun _ => h)

theorem settled_diagDeliver {q : DiagRequest} {f : State → State} {s : State} (h : Settled s)
    (hf : ∀ t, Settled t → Settled (f t)) : Settled (diagDeliver q f s) :=
  settled_receiveFrom h (fun t ht => settled_ite (fun _ => hf t ht) (fun _ => settled_countUnclaimed ht))

theorem settled_takeConfig {p : List Byte} {s : State} (h : Settled s) : Settled (takeConfig p s) :=
  settled_ite (fun _ => settled_ite (fun _ => h) (fun _ => settle_settled _))
    (fun _ => settled_ite (fun _ => settle_settled _) (fun _ => settled_countUnclaimed h))

theorem settled_readItem {q : DiagRequest} {s : State} (h : Settled s) : Settled (readItem q s) := by
  unfold readItem
  split <;> split <;> exact settled_answer h

theorem settled_clearItem {q : DiagRequest} {s : State} (h : Settled s) : Settled (clearItem q s) := by
  unfold clearItem
  split
  · exact settle_settled _
  · exact settled_turnAway h

theorem settled_takeTest {q : DiagRequest} {s : State} (h : Settled s) : Settled (takeTest q s) :=
  settled_ite (fun _ => settle_settled _) (fun _ => settled_answer h)

theorem settled_readRecord {q : DiagRequest} {s : State} (h : Settled s) : Settled (readRecord q s) := by
  have cursor (k : Cursor) {u : State} (hu : Settled u) : Settled (answerFromCursor q k u) := by
    unfold answerFromCursor
    split
    · exact hu.aside rfl
    · exact settled_answer hu
  refine settled_ite (fun _ => settled_ite (fun _ => cursor _ (h.aside rfl)) (fun _ => ?_)) (fun _ => settled_turnAway h)
  split
  · exact settled_ite (fun _ => cursor _ h) (fun _ => settled_answer h)
  · exact settled_answer h

/-! ### Every command -/

/-- Every command but RESET leaves a settled state settled. -/
theorem exec_settled {c : Instr} {s t : State} (h : Settled s) (hc : notReset c = true) (hx : exec c s = .next t) :
    Settled t := by
  have counted : ∀ t, Settled t → Settled (countUnclaimed t) := fun _ => settled_countUnclaimed
  have ends {p : Prop} [Decidable p] {u : State} : Settled (if p then settle u else s) :=
    settled_ite (fun _ => settle_settled _) (fun _ => h)
  cases c with
  | reset p => cases hc
  | inhibitSample a =>
    cases hx
    exact settled_ite (fun _ => h.aside rfl) (fun _ => settle_settled _)
  | accelerometerSample r => cases hx; exact settle_settled _
  | loadSample raw => cases hx; exact settle_settled _
  | chamberPressureSample raw => cases hx; exact settle_settled _
  | supplySample raw => cases hx; exact settle_settled _
  | valveDriverFault d r => cases hx; exact settle_settled _
  | wheelPulse w d => cases hx; exact settle_settled _
  | cabNotice o p =>
    cases hx
    exact settled_receiveFrom h (fun t ht => settled_ite (fun _ => settle_settled _) (fun _ => counted t ht))
  | drumNotice o p =>
    cases hx
    exact settled_receiveFrom h (fun t ht => settled_ite (fun _ => settle_settled _) (fun _ => counted t ht))
  | statusNotice o p =>
    cases hx
    refine settled_receiveFrom h (fun t ht => ?_)
    split
    · exact settle_settled _
    · exact counted t ht
  | alarmNotice o p =>
    cases hx
    refine settled_receiveFrom h (fun t ht => ?_)
    split
    · exact settle_settled _
    · exact counted t ht
  | handoffRequest o b =>
    cases hx
    refine settled_receiveFrom h (fun t ht => ?_)
    split
    · exact settled_ite (fun _ => settled_ite (fun _ => settle_settled _) (fun _ => ht)) (fun _ => counted t ht)
    · exact counted t ht
  | handoffReply o b =>
    cases hx
    refine settled_receiveFrom h (fun t ht => ?_)
    split
    · exact settled_ite (fun _ => settled_ite (fun _ => settle_settled _) (fun _ => ht)) (fun _ => counted t ht)
    · exact counted t ht
  | handoffCancel o b =>
    cases hx
    refine settled_receiveFrom h (fun t ht => ?_)
    split
    · exact settled_ite (fun _ => settle_settled _) (fun _ => counted t ht)
    · exact counted t ht
  | reholdWindowExpiry => cases hx; exact settled_ite (fun _ => h.aside rfl) (fun _ => h)
  | configNotice o p =>
    cases hx
    exact settled_receiveFrom h (fun t ht => settled_ite (fun _ => settled_takeConfig ht) (fun _ => counted t ht))
  | foreignOwnOriginFrame k p => cases hx; exact settled_receiveFrom h (fun _ ht => ht)
  | invalidFrame r => cases hx; exact settled_ite (fun _ => h.aside rfl) (fun _ => h)
  | transmitStart =>
    cases hx
    refine settled_ite (fun _ => ?_) (fun _ => h)
    split
    · exact h.aside rfl
    · exact h
  | arbitrationLost => cases hx; exact h.aside rfl
  | frameCompleted a =>
    cases hx
    show Settled (match s.lnk.transmission with | some t => _ | none => s)
    split
    · exact settle_settled _
    · exact h
  | receiveTimerExpiry =>
    cases hx
    exact settled_ite (fun _ => settled_ite (fun _ => h.aside rfl) (fun _ => settle_settled _)) (fun _ => h)
  | announceTimerExpiry => cases hx; exact settled_ite (fun _ => h.aside rfl) (fun _ => h)
  | diagRead q => cases hx; exact settled_diagDeliver h (fun _ => settled_readItem)
  | diagClear q => cases hx; exact settled_diagDeliver h (fun _ => settled_clearItem)
  | diagWrite q =>
    cases hx
    exact settled_diagDeliver h (fun _ ht => settled_ite (fun _ => settled_takeTest ht) (fun _ => settled_turnAway ht))
  | diagRecord q => cases hx; exact settled_diagDeliver h (fun _ => settled_readRecord)
  | diagTest q => cases hx; exact settled_diagDeliver h (fun _ => settled_takeTest)
  | diagUnknownOpcode q op => cases hx; exact settled_diagDeliver h (fun _ => settled_answer)
  | unclaimedValidFrame f => cases hx; exact settled_receiveFrom h counted
  | _ => cases hx; exact ends

/-- Every entry of a table shows OFFLINE and its reset flags, as all do after reset. -/
def Unannounced (t : Table Entry) : Prop := ∀ n, (t.get n).state = .offline ∧ (t.get n).flags = {} ∧ (t.get n).creep = 0

theorem unannounced_afterReset (x : Straps) : Unannounced (State.afterReset x).ptb.entries := by
  intro n
  by_cases h : n = x.sid
  · rw [h, show (State.afterReset x).ptb.entries.get x.sid = entryAtReset x from Table.get_set_self _ _ _]
    exact ⟨rfl, rfl, rfl⟩
  · rw [show (State.afterReset x).ptb.entries.get n = {} from (Table.get_set_of_ne _ _ h).trans (Table.get_fill _ _)]
    exact ⟨rfl, rfl, rfl⟩

/-- A station that nobody has announced anything to derives nothing. -/
theorem derive_unannounced {self : StationNo} {t : Table Entry} (h : Unannounced t) (p : Ptb)
    (hp : p = { entries := t, cab := p.cab, drum := p.drum, lastDuplicate := p.lastDuplicate }) :
    p.derive self t = p := by
  have h1 : poolOf t = [] := by simp [poolOf, Entry.inPool, (h _).1, StationState.inPool]
  have h2 : rawStationary self t = false := by simp [rawStationary, (h _).2.1]
  have h3 (q : Entry → Bool) (hq : ∀ n, q (t.get n) = false) : anyPeer self t q = false := by simp [anyPeer, hq]
  have h4 : anyPeer self t Entry.showsAlarm = false := h3 _ (fun n => by simp [Entry.showsAlarm, (h n).1])
  have h5 : anyPeer self t Entry.showsAbort = false := h3 _ (fun n => by simp [Entry.showsAbort, (h n).2.1])
  have h6 : eVehicleOf t = 0 := by simp [eVehicleOf, Entry.freshCreep, (h _).2.2, allStations]
  rw [hp]
  simp [Ptb.derive, fixedOf, flexibleOf, h1, h2, h4, h5, h6, timerWhile]

theorem settled_afterReset (x : Straps) : Settled (State.afterReset x) := by
  refine Agree.settled ⟨⟨rfl, rfl, Table.get_set_self _ _ _, derive_unannounced (unannounced_afterReset x) _ rfl, ?_⟩, rfl,
    rfl, rfl, ?_⟩ rfl
  · apply Table.ext_get
    intro n
    rw [keptAcknowledged_get]
    simp [State.afterReset]
  · simp [faultLineOf, State.afterReset]

/-- Settles O7: a command, the state after reset and a millisecond each leave a settled state. -/
theorem stepKeepsSettled : Obligations.StepKeepsSettled := by
  intro s t h hs
  rcases step_cases hs with ⟨c, u, hu, hc, hx⟩ | ⟨x, hx⟩ | rfl
  · exact exec_settled (h.aside (by rw [hu]; rfl)) hc hx
  · exact (settled_afterReset x).aside (by rw [hx]; rfl)
  · exact settled_advance h

end Sys2Proof.Machine
end

section
/-! PROOFS. The state after reset (O5, O6), and what is due and what a millisecond does (O2). -/

namespace Sys2Proof.Machine

set_option Elab.async false

/-! ### The state after reset -/

theorem planRight_afterReset (x : Straps) : PlanRight (State.afterReset x) := by
  refine ⟨by simp [State.afterReset], rfl, ?_⟩
  simp [State.afterReset, requiredForce, ceilDiv]

/-- Settles O6: each invariant of the state after reset. -/
theorem resetIsGood : Obligations.ResetIsGood := fun x =>
  ⟨settled_afterReset x, (fitted_afterReset x).1, (fitted_afterReset x).2,
    by simp [QueueRight, State.afterReset, Join.source], by simp [SpringsRight, State.afterReset],
    by simp [CountsRight, State.afterReset], planRight_afterReset x, records_afterReset x⟩

theorem hasFault_afterReset (x : Straps) (f : Flag) :
    hasFault (State.afterReset x) f = (decide (f = .strapFault) && decide (5 ≤ x.role.val)) := by
  cases f <;> rfl

theorem rankOfRole_eq (role : Fin 8) :
    rankOfRole role = if role.val = 1 then some 2 else if role.val = 0 ∨ role.val = 2 then some 1
      else if role.val = 3 ∨ role.val = 4 then some 0 else none := by
  revert role
  decide

theorem bitsOf_three (a b c : Bool) : bitsOf [a, b, c] = bit a + 2 * bit b + 4 * bit c := by
  cases a <;> cases b <;> cases c <;> rfl

theorem bitsOf_three_lt (a b c : Bool) : bit a + 2 * bit b + 4 * bit c < 8 := by
  cases a <;> cases b <;> cases c <;> decide

theorem sampleStraps_eq (p : StrapPins) (sid role : Fin 8) (hs : sid.val = bit p.sid0 + 2 * bit p.sid1 + 4 * bit p.sid2)
    (hr : role.val = bit p.role0 + 2 * bit p.role1 + 4 * bit p.role2) :
    sampleStraps p = { sid := sid, role := role, spring := p.spring } := by
  unfold sampleStraps
  congr 1
  · exact Fin.ext (by simp [Fin.ofNat, bitsOf_three, Nat.mod_eq_of_lt (bitsOf_three_lt _ _ _), hs])
  · exact Fin.ext (by simp [Fin.ofNat, bitsOf_three, Nat.mod_eq_of_lt (bitsOf_three_lt _ _ _), hr])

/-- Settles O5: block by block, the straps read from their pins. -/
theorem resetLeaves : Obligations.ResetLeaves := by
  intro p sid role s hs hr
  refine ⟨{ State.afterReset { sid := sid, role := role, spring := p.spring } with
    pending := s.pending, freeCount := s.freeCount }, ?_, ?_⟩
  · show execReset p s = _
    rw [execReset, sampleStraps_eq p sid role hs hr]
  · refine ⟨rfl, rfl, rfl, hasFault_afterReset _, rfl, rfl, rfl, rfl, rfl, rfl, rfl, rfl, rfl, rfl, rfl, ?_,
      Table.get_set_self _ _ _, rfl, rfl, rfl, rfl, rfl, ?_, ?_, rfl, rfl, rfl⟩
    · intro n hn
      exact (Table.get_set_of_ne _ _ hn).trans (Table.get_fill _ _)
    · intro n
      fin_cases n <;> exact ⟨rfl, rfl, rfl⟩
    · show ({ rank := rankOfRole role } : Rsq) = _
      rw [rankOfRole_eq]

/-! ### Time -/

/-- The expiries of one entry that are due. -/
theorem mem_entryDues (c : Instr) (s : State) (n : StationNo) :
    (∃ d ∈ entryDues s n, d.due = true ∧ d.command = c) ↔
      (c = .entryStalenessDeadline n ∧ n ≠ own s ∧ (entryOf s n).presence = .fresh ∧ (entryOf s n).deadline = some 0)
        ∨ (c = .entryAbsent n ∧ n ≠ own s ∧ (entryOf s n).presence ≠ .absent ∧ 2000 ≤ (entryOf s n).sinceStatus) := by
  simp only [entryDues, List.mem_cons, List.not_mem_nil, or_false, exists_eq_or_imp, exists_eq_left, Bool.and_eq_true,
    decide_eq_true_eq, Entry.isFresh, timerDue]
  constructor
  · rintro (⟨⟨⟨h1, h2⟩, h3⟩, rfl⟩ | ⟨⟨⟨h1, h2⟩, h3⟩, rfl⟩)
    · exact .inl ⟨rfl, h1, h2, h3⟩
    · exact .inr ⟨rfl, h1, h2, h3⟩
  · rintro (⟨rfl, h1, h2, h3⟩ | ⟨rfl, h1, h2, h3⟩)
    · exact .inl ⟨⟨⟨h1, h2⟩, h3⟩, rfl⟩
    · exact .inr ⟨⟨⟨h1, h2⟩, h3⟩, rfl⟩

theorem mem_allStations (n : StationNo) : n ∈ allStations := by
  revert n
  decide

/-- The expiries of the entries that are due. -/
theorem mem_flatten_entryDues (c : Instr) (s : State) :
    (∃ d ∈ (allStations.map (entryDues s)).flatten, d.due = true ∧ d.command = c) ↔
      ∃ n, (c = .entryStalenessDeadline n ∧ n ≠ own s ∧ (entryOf s n).presence = .fresh
              ∧ (entryOf s n).deadline = some 0)
        ∨ (c = .entryAbsent n ∧ n ≠ own s ∧ (entryOf s n).presence ≠ .absent ∧ 2000 ≤ (entryOf s n).sinceStatus) := by
  simp only [← mem_entryDues]
  constructor
  · rintro ⟨d, hd, h⟩
    obtain ⟨l, hl, hd⟩ := List.mem_flatten.1 hd
    obtain ⟨n, -, rfl⟩ := List.mem_map.1 hl
    exact ⟨n, d, hd, h⟩
  · rintro ⟨n, d, hd, h⟩
    exact ⟨d, List.mem_flatten.2 ⟨_, List.mem_map.2 ⟨n, mem_allStations n, rfl⟩, hd⟩, h⟩

theorem mem_dueCommands (c : Instr) (s : State) :
    c ∈ dueCommands s ↔ ∃ d ∈ allDues s, d.due = true ∧ d.command = c := by
  simp only [dueCommands, List.mem_map, List.mem_filter, and_assoc]

/-- The commands that are due are the expiries of the timers that have nothing left. -/
theorem mem_dueCommands_iff (c : Instr) (s : State) : c ∈ dueCommands s ↔ ExpiryDue c s := by
  rw [mem_dueCommands, allDues]
  simp only [List.mem_append, or_and_right, exists_or, List.mem_cons, List.not_mem_nil, or_false,
    exists_eq_left, mem_flatten_entryDues]
  cases c <;>
    simp [ExpiryDue, timerDue, exchanging, memoryBytes, and_assoc]
  case parameterMemoryReadEnd => exact fun _ _ => and_comm.trans (and_congr eq_comm eq_comm)

/-- A due command is chosen where there is one. -/
theorem chooseDue_mem {s : State} (h : dueCommands s ≠ []) : ∃ c ∈ dueCommands s, chooseDue s = some c := by
  have hl : Config.expiryChoice s.freeCount % (dueCommands s).length < (dueCommands s).length :=
    Nat.mod_lt _ (List.length_pos_iff.2 h)
  exact ⟨_, List.getElem_mem hl, List.getElem?_eq_getElem hl⟩

theorem step_idle {s : State} (h : s.pending = []) : step s = idle s := by
  rw [step, h]

/-- Settles O2: the choice among the due expiries, which they are, and a millisecond block by block. -/
theorem idleTakesDueOrTime : Obligations.IdleTakesDueOrTime := by
  refine ⟨fun s hp => ⟨fun hd => ⟨advance s, ?_, rfl, rfl⟩, fun hd => ?_⟩, mem_dueCommands_iff, ?_⟩
  · rw [step_idle hp, idle, chooseDue, hd]
    rfl
  · obtain ⟨c, hc, he⟩ := chooseDue_mem hd
    exact ⟨c, hc, by rw [step_idle hp, idle, he]⟩
  · rintro s _ rfl
    exact ⟨rfl, rfl, rfl, agedEntries_self _ _, fun n hn => agedEntries_of_ne _ hn, rfl, rfl, rfl, rfl, rfl, rfl, rfl, rfl⟩

end Sys2Proof.Machine
end

section
/-! PROOFS. A station that nothing calls out of its state stays in it (`Stays`): what a whole event leaves as it was. -/

namespace Sys2Proof.Machine

set_option Elab.async false

/-! ### What is read of the steady parts -/

section

variable {s t : State}

theorem cabNow_of_steady (h : steady t = steady s) : cabNow t = cabNow s := by
  unfold cabNow
  rw [cab_of_steady h]

theorem securing_of_steady (h : steady t = steady s) : securing t = securing s := by
  unfold securing
  rw [cabNow_of_steady h, cab_of_steady h]

theorem liftAsked_of_steady (h : steady t = steady s) : liftAsked t = liftAsked s := by
  unfold liftAsked ownLiftBit liftRole
  rw [cabNow_of_steady h, own_of_steady h, suc_of_steady h]

theorem handoffReason_of_steady (h : steady t = steady s) : handoffReason t = handoffReason s := by
  unfold handoffReason
  rw [liftAsked_of_steady h, suc_of_steady h]

theorem unparkCondition_of_steady (h : steady t = steady s) : unparkCondition t = unparkCondition s := by
  unfold unparkCondition
  rw [cabNow_of_steady h, cab_of_steady h]

theorem pMeas_of_steady (h : steady t = steady s) : t.mod.pMeas = s.mod.pMeas := congrArg (fun x => x.sensed.pMeas) h

theorem inhibit_of_steady (h : steady t = steady s) : t.suc.inhibit = s.suc.inhibit :=
  congrArg (fun x => x.suc.inhibit) h

end

theorem steady_minor {s t : State} (m : Minor s t) : steady t = steady s := by
  cases m with
  | deferAsk => exact steady_deferAsk s
  | testUnpark => exact steady_testUnpark s
  | _ => rfl

/-! ### A station that nothing disturbs -/

/-- No alarm, no failure and no report is on hand that would take the station out of its state. -/
structure Undisturbed (s : State) : Prop where
  failure : failureRaised s = false
  alarms : unacknowledgedAlarms s = []
  ends : ∀ e ∈ s.agenda.ends, e.outcome = .superseded
  rollaways : s.agenda.rollaways = []
  peerAlarms : s.agenda.peerAlarms = []
  yields : s.stc.state = .leaving → s.agenda.yields = []
  abortEvent : s.agenda.abortEvent = false
  near : s.crm.watch = true → s.stc.state.monitored = true
    ∧ (s.crm.d - s.crm.rollBase).natAbs < s.suc.vehicle.rollawayThreshold
  threshold : 0 < s.suc.vehicle.rollawayThreshold

theorem Undisturbed.of_calm {s : State} (h : Calm s) (ha : s.agenda = {}) : Undisturbed s := by
  obtain ⟨h1, h2, h3, h4⟩ := h
  exact ⟨h1, h2, by simp [ha], by simp [ha], by simp [ha], by simp [ha], by simp [ha], h3, h4⟩

theorem failureRaised_of_nearly {s t : State} (q : Nearly s t) : failureRaised t = failureRaised s := by
  have h1 := q.sticky .pressureSensor rfl (by simp)
  have h2 := q.sticky .valveDriver rfl (by simp)
  simp only [FaultSet.get] at h1 h2
  unfold failureRaised
  rw [h1, h2]

/-- A quiet part of an event disturbs nothing. -/
theorem Undisturbed.nearly {s t : State} (h : Undisturbed s) (q : Nearly s t) : Undisturbed t where
  failure := (failureRaised_of_nearly q).trans h.failure
  alarms := q.alarms.trans h.alarms
  ends := fun e he => (q.calls.ends e he).elim (h.ends e) id
  rollaways := List.eq_nil_iff_forall_not_mem.2 (fun r hr => by
    rcases q.calls.rollaways r hr with hr | ⟨hw, hd⟩
    · simp [h.rollaways] at hr
    · have := (h.near hw).2
      omega)
  peerAlarms := List.eq_nil_iff_forall_not_mem.2 (fun n hn => by simpa [h.peerAlarms] using q.calls.peerAlarms n hn)
  yields := fun hs => List.eq_nil_iff_forall_not_mem.2 (fun n hn => by
    have := h.yields ((state_of_standing q.standing).symm.trans hs)
    simpa [this] using q.calls.yields n hn)
  abortEvent := by
    have := mt q.calls.abortEvent
    simpa [h.abortEvent] using this
  near := by
    rw [watch_of_standing q.standing, state_of_standing q.standing, suc_of_steady q.steady,
      show t.crm.d = s.crm.d from congrArg (fun x => x.crm.d) q.standing,
      show t.crm.rollBase = s.crm.rollBase from congrArg (fun x => x.crm.rollBase) q.standing]
    exact h.near
  threshold := by rw [suc_of_steady q.steady]; exact h.threshold

theorem Crm.near_enter {t : StationState} {b : Bool} {a : Option Int} {c : Crm} {n : Nat} (hn : 0 < n)
    (hb : c.watch = true → b = false) (hc : c.watch = true → (c.d - c.rollBase).natAbs < n)
    (h : (c.enter t b a).watch = true) : t.monitored = true ∧ ((c.enter t b a).d - (c.enter t b a).rollBase).natAbs < n := by
  rw [Crm.watch_enter] at h
  refine ⟨h, ?_⟩
  unfold Crm.enter
  cases hw : c.watch with
  | true => simpa [h, hb hw, hw] using hc hw
  | false =>
    have : (if b = true then c.zero else c).watch = false := by split <;> exact hw
    simpa [h, this, Crm.beginWatch] using hn

/-- Nor does the entry to a state, but to LEAVING with a yield on hand. -/
theorem Undisturbed.enterState {s : State} (h : Undisturbed s) (t : StationState)
    (ht : t = .leaving → s.agenda.yields = []) : Undisturbed (enterState t s) := by
  refine ⟨?_, h.alarms, h.ends, h.rollaways, h.peerAlarms, ht, h.abortEvent, ?_, h.threshold⟩
  · have h1 := faults_enterState t s (f := .pressureSensor) rfl
    have h2 := faults_enterState t s (f := .valveDriver) rfl
    have h := h.failure
    simp only [FaultSet.get] at h1 h2
    unfold failureRaised at *
    rw [h1, h2, h]
  · refine Crm.near_enter h.threshold (fun hw => ?_) (fun hw => (h.near hw).2)
    have := (h.near hw).1
    cases hs : s.stc.state <;> simp_all [isHoldEntry, StationState.monitored]

theorem Undisturbed.followLift {s : State} (h : Undisturbed s) : Undisturbed (followLift s) := by
  unfold Machine.followLift
  split
  · exact ⟨h.failure, h.alarms, h.ends, h.rollaways, h.peerAlarms, h.yields, h.abortEvent, h.near, h.threshold⟩
  · exact h

/-- The marks that a report writes beside transitions disturb nothing. -/
theorem Undisturbed.minor {s t : State} (h : Undisturbed s) (m : Minor s t) : Undisturbed t := by
  have marked (u : State) (hu : Undisturbed u) (b : Bool) : Undisturbed (markUnpark b u) :=
    ⟨hu.failure, hu.alarms, hu.ends, hu.rollaways, hu.peerAlarms, hu.yields, hu.abortEvent, hu.near, hu.threshold⟩
  obtain ⟨h1, h2, h3, h4, h5, h6, h7, h8, h9⟩ := h
  have spent (b : Bool) : Undisturbed { s with stc := { s.stc with unparkSpent := b } } :=
    ⟨h1, h2, h3, h4, h5, h6, h7, h8, h9⟩
  cases m with
  | tendHandoff => exact ⟨h1, h2, h3, h4, h5, h6, h7, h8, h9⟩
  | deferAsk => unfold deferAsk; split <;> exact ⟨h1, h2, h3, h4, h5, h6, h7, h8, h9⟩
  | testUnpark =>
    unfold testUnpark
    dsimp only
    (repeat' split)
    all_goals first | exact spent _ | exact marked _ (spent _) _
  | unparkUnreached e he ho _ => simp [h3 e he] at ho
  | countRampStep e _ => exact ⟨h1, h2, h3, h4, h5, h6, h7, h8, h9⟩
  | counted hc => simp [h4, h5] at hc
  | turn _ _ _ => exact ⟨h1, h2, h3, h4, h5, h6, h7, h8, h9⟩
  | succeed _ _ => exact ⟨h1, h2, h3, h4, h5, h6, h7, h8, h9⟩

/-! ### A station that stays -/

/-- Nothing in the station's own records, its cab or its inputs asks for another state. -/
inductive Stays (s : State) : Prop
  | free (hs : s.stc.state = .free) (hi : s.suc.inhibit = false) (hl : s.stc.lifted = liftAsked s)
      (hv : s.ptb.vehicleStationary = false ∨ s.stc.lifted = true ∨ s.stc.loweringTimer.isSome = true)
  | holding (hs : s.stc.state = .holding) (hc : securing s = false) (hr : handoffReason s = false)
  | secured (hs : s.stc.state = .secured) (hr : handoffReason s = false)
  | asking (hs : s.stc.state = .leaving) (hp : s.hoe.phase = .exchange) (hc : leaveReasonCeased s = false)
      (hn : s.hoe.replies = Table.fill none)
  | handingOff (hs : s.stc.state = .leaving) (hp : s.hoe.phase = .ramp) (hm : rampEndPressure < s.mod.pMeas)
  | releasing (hs : s.stc.state = .releasing) (hp : s.rsq.phase ≠ .idle) (ha : s.ptb.abortPeer = false) (hq : peerAborts s = false)
      (hd : (s.crm.d - s.rsq.rollbackBase).natAbs < s.suc.vehicle.rollbackLimit)
      (hm : rampEndPressure < s.mod.pMeas ∨ s.rsq.phase = .waitingTurn ∨ s.rsq.rampSteps < 2)
  | service (hs : s.stc.state = .service) (hi : s.suc.inhibit = true)

theorem leaveReasonCeased_of_views {s t : State} (h : steady t = steady s) (hl : t.stc.leaveReason = s.stc.leaveReason) :
    leaveReasonCeased t = leaveReasonCeased s := by
  unfold leaveReasonCeased ownLiftBit
  rw [hl, cabNow_of_steady h, own_of_steady h, suc_of_steady h]

theorem Stays.nearly {s t : State} (h : Stays s) (q : Nearly s t) : Stays t := by
  have e0 := state_of_standing q.standing
  have e1 := suc_of_steady q.steady
  have e2 : t.stc.lifted = s.stc.lifted := congrArg (fun x => x.stc.lifted) q.standing
  have e3 : t.stc.loweringTimer = s.stc.loweringTimer := congrArg (fun x => x.stc.loweringTimer) q.standing
  have e4 : t.hoe.phase = s.hoe.phase := congrArg (fun x => x.hoe.phase) q.standing
  have e5 : t.hoe.replies = s.hoe.replies := congrArg (fun x => x.hoe.replies) q.standing
  have e6 : t.rsq.phase = s.rsq.phase := congrArg (fun x => x.rsq.phase) q.standing
  have e7 : t.rsq.rampSteps = s.rsq.rampSteps := congrArg (fun x => x.rsq.rampSteps) q.standing
  have e8 : t.rsq.rollbackBase = s.rsq.rollbackBase := congrArg (fun x => x.rsq.rollbackBase) q.standing
  have e9 : t.crm.d = s.crm.d := congrArg (fun x => x.crm.d) q.standing
  have e10 := handoffReason_of_steady q.steady
  have e11 := pMeas_of_steady q.steady
  cases h with
  | free hs hi hl hv =>
    refine .free (e0.trans hs) (by rw [e1, hi]) (by rw [e2, liftAsked_of_steady q.steady, hl]) ?_
    rw [e2, e3]
    refine hv.imp_left (fun hv => ?_)
    have := mt q.stationary
    simpa [hv] using this
  | holding hs hc hr => exact .holding (e0.trans hs) (by rw [securing_of_steady q.steady, hc]) (e10.trans hr)
  | secured hs hr => exact .secured (e0.trans hs) (e10.trans hr)
  | asking hs hp hc hn =>
    refine .asking (e0.trans hs) (e4.trans hp) ?_ (e5.trans hn)
    rw [leaveReasonCeased_of_views q.steady (congrArg (fun x => x.stc.leaveReason) q.standing), hc]
  | handingOff hs hp hm => exact .handingOff (e0.trans hs) (e4.trans hp) (by rwa [e11])
  | releasing hs hp ha hq hd hm =>
    refine .releasing (e0.trans hs) (by rwa [e6]) ?_ (by rw [peerAborts_of_steady q.steady, hq]) (by rwa [e9, e8, e1])
      (by rwa [e11, e6, e7])
    have := mt q.abortPeer
    simpa [ha, hq] using this
  | service hs hi => exact .service (e0.trans hs) (by rw [e1, hi])

/-- The LIFTED flag of a station that stays follows its lift bit already. -/
theorem Stays.followLift {s : State} (h : Stays s) : followLift s = s := by
  unfold Machine.followLift
  rw [if_neg]
  cases h with
  | free hs _ hl _ => simp [hl]
  | holding hs _ _ | secured hs _ | asking hs _ _ _ | handingOff hs _ _ | releasing hs _ _ _ _ _ | service hs _ => simp [hs]

theorem Stays.no_exit {s : State} {t : StationState} (hu : Undisturbed s) (h : Stays s) : ¬ Exit s t := by
  intro e
  have hf := hu.failure
  cases e with
  | fails hf' _ => simp [hf] at hf'
  | startsStanding hs | startsFree hs | lifts hs | holds hs => cases h <;> simp_all
  | serves hs hi => cases h <;> simp_all
  | stands hs hi ha => cases h <;> simp_all [standstillAllowed]
  | secures hs hc => cases h <;> simp_all
  | resumes hs hi => cases h <;> simp_all

theorem exchangeSucceeds_of_no_replies {s : State} (h : s.hoe.replies = Table.fill none) : exchangeSucceeds s = false := by
  have ha (n : StationNo) : acceptedBy s n = false := by simp [acceptedBy, h]
  unfold exchangeSucceeds
  cases s.ptb.pool <;> simp [ha]

theorem rollbackTravel_le (k : Downhill) (g : Option Direction) (b d : Int) : rollbackTravel k g b d ≤ (d - b).natAbs := by
  unfold rollbackTravel
  split <;> omega

theorem Exit.ne_leaving {s : State} {t : StationState} (h : Exit s t) : t ≠ .leaving := by
  cases h <;> simp

/-- An undisturbed station has the exits of its state alone. -/
theorem Undisturbed.exitMove {s : State} (h : Undisturbed s) : exitMove s = stateExit s := by
  unfold Machine.exitMove alarmExit
  rw [h.failure, h.alarms]
  simp

theorem exitMove_peerAlarm {s : State} {n : StationNo} (h : exitMove s = some (.peerAlarm n)) :
    unacknowledgedAlarms s ≠ [] := by
  intro ha
  unfold exitMove alarmExit at h
  rw [ha] at h
  split at h
  · cases h
  · simp only [List.head?_nil, Option.map_none, ite_self] at h
    unfold stateExit at h
    (repeat' split at h) <;> cases h

/-- A station that stays has no transition. -/
theorem Stays.no_hop {s t : State} (hu : Undisturbed s) (h : Stays s) : ¬ Hop s t := by
  intro r
  have ready : ¬ exchangeReady s = true ∨ (s.stc.state ≠ .holding ∧ s.stc.state ≠ .secured) := by
    cases h <;> simp_all [exchangeReady]
  cases r with
  | goto _ ht => exact h.no_exit hu (exitMove_goto ht)
  | peerShows n hm => exact exitMove_peerAlarm hm hu.alarms
  | peerAlarm n rest hp _ => simp [hu.peerAlarms] at hp
  | rollaway c rest hp _ => simp [hu.rollaways] at hp
  | exchange hm =>
    obtain ⟨h1, h2⟩ := exitMove_exchange hm
    rcases ready with hr | hr
    · exact hr h2
    · exact h1.elim hr.1 hr.2
  | withdraw hm =>
    obtain ⟨h1, h2⟩ := exitMove_withdraw hm
    have h1 := (exchanging_iff s).1 h1
    cases h <;> simp_all
  | yield m rest hm hx => simp [hu.yields ((exchanging_iff s).1 hx).1] at hm
  | unparked e rest he ho _ => simp [hu.ends e (by rw [he]; exact List.mem_cons_self)] at ho
  | rampOver hs hp he =>
    simp only [rampEnded, Bool.and_eq_true, decide_eq_true_eq] at he
    cases h with
    | handingOff _ _ hm => omega
    | _ => simp_all
  | released hs hp he | reheldAtOnce hs hp he _ =>
    simp only [rampEnded, Bool.and_eq_true, decide_eq_true_eq] at he
    cases h with
    | releasing _ _ _ _ _ hm =>
      rcases hm with hm | hm | hm
      · omega
      · simp [hp] at hm
      · omega
    | _ => simp_all
  | reheld ha _ => simp [hu.abortEvent] at ha
  | aborted w hr hw =>
    have hr := (releaseInProgress_iff s).1 hr
    cases h with
    | releasing _ _ ha _ hd _ =>
      have := rollbackTravel_le s.crm.downhill s.rsq.entryGear s.rsq.rollbackBase s.crm.d
      simp only [rollsBack, decide_eq_true_eq, ha, Bool.false_eq_true, or_false] at hw
      omega
    | _ => simp_all
  | abortedByPeer ha _ => simp [hu.abortEvent] at ha

end Sys2Proof.Machine
end

section
/-! PROOFS. What a whole event leaves of a station that stays in its state (`Rested`). -/

namespace Sys2Proof.Machine

set_option Elab.async false

/-! ### What a station at rest keeps -/

/-- The standing part of a state, the marks blanked that the tests of an event may write in a station that stays: the un-park marks,
the retry wait, a deferred ask, and the turn of a release that waits for it. -/
def resting (s : State) : Standing :=
  { standing s with
    stc := { (standing s).stc with unparkMark := false, unparkSpent := false }
    hoe := { (standing s).hoe with
      retryWait := none, phase := if s.hoe.phase = .deferred then .idle else s.hoe.phase }
    rsq := if s.rsq.phase = .waitingTurn then (standing s).rsq.takeTurn else (standing s).rsq }

theorem resting_of_standing {s t : State} (h : standing t = standing s) : resting t = resting s := by
  unfold resting
  rw [h, show t.hoe.phase = s.hoe.phase from congrArg (fun x => x.hoe.phase) h,
    show t.rsq.phase = s.rsq.phase from congrArg (fun x => x.rsq.phase) h]

section

variable {s t : State} (h : resting t = resting s)

include h

theorem state_of_resting : t.stc.state = s.stc.state := congrArg (fun x => x.stc.state) h
theorem holdTimer_of_resting : t.stc.holdTimer = s.stc.holdTimer := congrArg (fun x => x.stc.holdTimer) h
theorem holdEntryTime_of_resting : t.stc.holdEntryTime = s.stc.holdEntryTime :=
  congrArg (fun x => x.stc.holdEntryTime) h
theorem eOwn_of_resting : t.crm.eOwn = s.crm.eOwn := congrArg (fun x => x.crm.eOwn) h
theorem left_of_resting : t.crm.left = s.crm.left := congrArg (fun x => x.crm.left) h
theorem right_of_resting : t.crm.right = s.crm.right := congrArg (fun x => x.crm.right) h
theorem d_of_resting : t.crm.d = s.crm.d := congrArg (fun x => x.crm.d) h

end

/-- What an event leaves of a station that stays: the resting part, the park valve and the join, but that SERVICE may end TEST. -/
structure Rested (s t : State) : Prop where
  steady : steady t = steady s
  resting : resting t = resting s
  outfit : t.mod.outfit = s.mod.outfit
    ∨ (s.stc.state = .service ∧ t.mod.outfit = { s.mod.outfit with join := .idleVent })
  ramps : s.rsq.phase = .ramping → t.rsq.phase = .ramping

theorem Rested.refl (s : State) : Rested s s := ⟨rfl, rfl, .inl rfl, id⟩

theorem Rested.state {s t : State} (h : Rested s t) : t.stc.state = s.stc.state := state_of_resting h.resting

theorem Rested.trans {s t u : State} (h : Rested s t) (k : Rested t u) : Rested s u where
  steady := k.steady.trans h.steady
  resting := k.resting.trans h.resting
  outfit := by
    rcases k.outfit with ho | ⟨hs, ho⟩
    · rw [ho]; exact h.outfit
    · rw [h.state] at hs
      refine .inr ⟨hs, ho.trans ?_⟩
      rcases h.outfit with h1 | ⟨-, h1⟩ <;> rw [h1]
  ramps := fun x => k.ramps (h.ramps x)

theorem Rested.of_nearly {s t : State} (q : Nearly s t) (ho : t.mod.outfit = s.mod.outfit) : Rested s t :=
  ⟨q.steady, resting_of_standing q.standing, .inl ho, fun x => (congrArg (fun x => x.rsq.phase) q.standing).trans x⟩

/-- A mark that stays: the tests of an event write blanked items alone. -/
theorem Stays.minor {s t : State} (hu : Undisturbed s) (h : Stays s) (m : Minor s t) : Stays t ∧ Rested s t := by
  have hx (hs : exchangeSucceeds s = true) (he : exchanging s = true) : False := by
    have he := (exchanging_iff s).1 he
    cases h with
    | asking _ _ _ hn => simp [exchangeSucceeds_of_no_replies hn] at hs
    | _ => simp_all
  cases m with
  | tendHandoff =>
    refine ⟨?_, rfl, ?_, .inl rfl, id⟩
    · cases h with
      | free hs hi hl hv => exact .free hs hi hl hv
      | holding hs hc hr => exact .holding hs hc hr
      | secured hs hr => exact .secured hs hr
      | asking hs hp hc hn => exact .asking hs (by simp [tendHandoff, hp]) hc hn
      | handingOff hs hp hm => exact .handingOff hs (by simp [tendHandoff, hp]) hm
      | releasing hs hp ha hq hd hm => exact .releasing hs hp ha hq hd hm
      | service hs hi => exact .service hs hi
    · have hr : (s.stc.state = .holding ∨ s.stc.state = .secured) → handoffReason s = false := by
        intro hs
        cases h <;> simp_all
      have hp : (if (tendHandoff s).hoe.phase = .deferred then LeaverPhase.idle else (tendHandoff s).hoe.phase)
          = if s.hoe.phase = .deferred then .idle else s.hoe.phase := by
        simp only [tendHandoff]
        split <;> simp_all
      unfold resting
      rw [hp]
      rfl
  | deferAsk =>
    have he : deferAsk s = s := by
      unfold deferAsk
      rw [if_neg]
      cases h <;> simp_all
    rw [he]
    exact ⟨h, .refl s⟩
  | testUnpark =>
    by_cases hs : s.stc.state = .secured
    · have hr : handoffReason s = false := by cases h <;> simp_all
      unfold testUnpark
      rw [if_pos hs]
      (repeat' split) <;> exact ⟨.secured hs hr, rfl, rfl, .inl rfl, id⟩
    · unfold testUnpark
      rw [if_neg hs]
      refine ⟨?_, rfl, rfl, .inl rfl, id⟩
      cases h with
      | free hs hi hl hv => exact .free hs hi hl hv
      | holding hs hc hr => exact .holding hs hc hr
      | secured hs' _ => exact absurd hs' hs
      | asking hs hp hc hn => exact .asking hs hp hc hn
      | handingOff hs hp hm => exact .handingOff hs hp hm
      | releasing hs hp ha hq hd hm => exact .releasing hs hp ha hq hd hm
      | service hs hi => exact .service hs hi
  | unparkUnreached e he ho _ => simp [hu.ends e he] at ho
  | countRampStep e he =>
    have hp : e.profileEnd = false := by simp [StepEnd.profileEnd, hu.ends e he]
    have he : countRampStep e s = s := by simp [countRampStep, hp]
    rw [he]
    exact ⟨h, .refl s⟩
  | counted hc => simp [hu.rollaways, hu.peerAlarms] at hc
  | turn _ hs hp =>
    have h1 : Stays { s with rsq := s.rsq.takeTurn, agenda := { s.agenda with turn := false } } := by
      cases h with
      | releasing hs _ ha hq hd _ => exact .releasing hs (by simp [Rsq.takeTurn]) ha hq hd (.inr (.inr (by simp [Rsq.takeTurn])))
      | _ => simp_all
    refine ⟨h1, rfl, ?_, .inl rfl, fun _ => rfl⟩
    simp [resting, standing, hp, Rsq.takeTurn]
  | succeed he hs => exact absurd he (fun he => hx hs he)

/-- Every act leaves a station that stays at rest. -/
theorem Stays.act {s t : State} (hu : Undisturbed s) (h : Stays s) (a : Act s t) :
    Undisturbed t ∧ Stays t ∧ Rested s t := by
  cases a with
  | quiet q => exact ⟨hu.nearly q.toNearly, h.nearly q.toNearly, .of_nearly q.toNearly q.outfit⟩
  | followLift => rw [h.followLift]; exact ⟨hu, h, .refl s⟩
  | minor m _ => exact ⟨hu.minor m, h.minor hu m⟩
  | ventService hs =>
    have q := nearly_joinTo .idleVent s
    refine ⟨hu.nearly q, h.nearly q, q.steady, resting_of_standing q.standing, .inr ⟨hs, ?_⟩,
      fun x => (congrArg (fun x => x.rsq.phase) q.standing).trans x⟩
    rw [show (joinTo .idleVent s).mod = _ from takeModResult_mod _ _]
    exact Mod.outfit_joinTo _ _
  | turn ha hs hp =>
    have m : Minor s _ := .turn ha hs hp
    have q := nearly_appendSteps .release (releaseProfile s.mod.pMeas 2000)
      { s with rsq := s.rsq.takeTurn, agenda := { s.agenda with turn := false } }
    obtain ⟨h1, h2⟩ := h.minor hu m
    exact ⟨(hu.minor m).nearly q, h1.nearly q, h2.trans (.of_nearly q (outfit_appendSteps _ _ _))⟩
  | succeed he hs =>
    have he := (exchanging_iff s).1 he
    cases h with
    | asking _ _ _ hn => simp [exchangeSucceeds_of_no_replies hn] at hs
    | _ => simp_all
  | moved r _ => exact absurd r (h.no_hop hu)

/-- So does settling. -/
theorem Stays.settle {s : State} (hu : Undisturbed s) (h : Stays s) :
    Undisturbed (settle s) ∧ Stays (settle s) ∧ Rested s (settle s) := by
  refine settle_of_acts (P := fun t => Undisturbed t ∧ Stays t ∧ Rested s t) (fun t u ht a => ?_) ⟨hu, h, .refl s⟩
  obtain ⟨h1, h2, h3⟩ := ht
  obtain ⟨k1, k2, k3⟩ := h2.act h1 a
  exact ⟨k1, k2, h3.trans k3⟩

/-- A station that stays takes no transition at the exits, and no chain of them. -/
theorem Stays.no_move {s : State} (hu : Undisturbed s) (h : Stays s) : exitMove s = none := by
  cases hm : exitMove s with
  | none => rfl
  | some m => exact absurd (hop_applyMove hm) (h.no_hop hu)

theorem Stays.chain {s : State} (hu : Undisturbed s) (h : Stays s) (n : Nat) : chain n s = s := by
  cases n with
  | zero => rfl
  | succ n =>
    unfold Machine.chain
    rw [h.followLift, h.no_move hu]

/-- A station that enters a state and stays there: the entry and its outputs are all. -/
theorem Stays.afterMove {s : State} (hu : Undisturbed s) (h : Stays s) : afterMove s = outputs s := by
  unfold Machine.afterMove
  rw [h.chain hu]

end Sys2Proof.Machine
end

section
/-! PROOFS. An event that begins with a transition, or with a test of the exits, in a station that stays after it; the timers of
STC (O34, O35). -/

namespace Sys2Proof.Machine

set_option Elab.async false

/-! ### Runs of acts -/

theorem Kept.run {P : State → Prop} (k : Kept P) {s t : State} (h : P s) (r : Acts s t) : P t := by
  induction r with
  | refl => exact h
  | tail _ a ih => exact k.act ih a

theorem Stays.run {s t : State} (hu : Undisturbed s) (h : Stays s) (r : Acts s t) :
    Undisturbed t ∧ Stays t ∧ Rested s t := by
  induction r with
  | refl => exact ⟨hu, h, .refl s⟩
  | tail _ a ih =>
    obtain ⟨h1, h2, h3⟩ := ih
    obtain ⟨k1, k2, k3⟩ := h2.act h1 a
    exact ⟨k1, k2, h3.trans k3⟩

theorem drain_acts (n : Nat) (s : State) : Acts s (drain n s) :=
  drain_induction (P := Acts s) (fun t h => h.trans (acts_quiet (quietly_sync t)))
    (fun _ _ h r => h.trans (report_acts r)) n .refl

/-- Settling takes the first report, and then is a run of acts. -/
theorem settle_first {s t : State} (h : nextReport (sync s) = some t) : Acts t (settle s) := by
  have hd : drain reportLimit s = drain 63 t := by
    show drain (63 + 1) s = _
    rw [drain, h]
  rw [settle, hd]
  exact (drain_acts 63 t).trans (acts_quiet (quietly_levels _))

/-- The test of the exits is the first report where none comes from outside the event. -/
theorem nextReport_exits {s : State} (h1 : s.agenda.ends = []) (h2 : s.agenda.rollaways = [])
    (h3 : s.agenda.peerAlarms = []) (h4 : s.agenda.abortEvent = false) (h5 : s.agenda.yields = [])
    (h6 : s.agenda.exits = true) :
    nextReport s = some (testExits { s with agenda := { s.agenda with exits := false } }) := by
  simp [nextReport, h1, h2, h3, h4, h5, h6]

/-- The state in which a first test of the exits is taken: brought up to date, the test off the agenda. -/
def atExits (s : State) : State := { sync s with agenda := { (sync s).agenda with exits := false } }

theorem quietly_atExits (s : State) : Quietly s (atExits s) :=
  (quietly_sync s).trans (quietly_agenda _ _ (.of_agenda rfl rfl rfl rfl rfl rfl))

/-- Settling an undisturbed station that asks for a test of its exits begins with that test. -/
theorem settle_exits {s : State} (hu : Undisturbed s) (he : s.agenda.ends = []) (hy : s.agenda.yields = [])
    (hx : s.agenda.exits = true) :
    Acts (testExits (atExits s)) (settle s) :=
  settle_first (nextReport_exits he hu.rollaways hu.peerAlarms hu.abortEvent hy
    (show (s.agenda.exits || exitValuesDiffer _ _) = true by rw [hx, Bool.true_or]))

theorem followLift_of_eq {s : State} (h : s.stc.lifted = liftAsked s) : followLift s = s := by
  unfold followLift
  rw [if_neg (by simp [h])]

theorem followLift_of_state {s : State} (h1 : s.stc.state ≠ .free) (h2 : s.stc.state ≠ .standstill) :
    followLift s = s := by
  unfold followLift
  rw [if_neg (by simp [h1, h2])]

/-- The test of the exits where one is open, and where none is. -/
theorem testExits_some {s : State} {m : Move} (hf : followLift s = s) (h : exitMove (tendHandoff s) = some m) :
    testExits s = afterMove (applyMove m (tendHandoff s)) := by
  simp only [testExits, hf, h]

theorem testExits_none {s : State} (hf : followLift s = s) (h : exitMove (tendHandoff s) = none) :
    testExits s = testService (testUnpark (deferAsk (tendHandoff s))) := by
  simp only [testExits, hf, h]

/-! ### A state entered and kept -/

/-- What is left, at the end of an event, of a state `v` that was entered and kept. -/
structure Entered (v t : State) : Prop where
  steady : steady t = steady v
  resting : resting t = resting v
  park : ∀ b, parkOf v.stc.origin v.stc.state = some b → t.mod.parkCmd = b
  join : t.mod.join = joinOf v.hoe.phase v.stc.state

theorem Stays.entered {v t : State} (hu : Undisturbed v) (h : Stays v) (r : Acts (Machine.afterMove v) t) : Entered v t := by
  rw [h.afterMove hu] at r
  have q := nearly_outputs v
  obtain ⟨-, -, h1, h2, h3, -⟩ := (h.nearly q).run (hu.nearly q) r
  refine ⟨h1.trans q.steady, h2.trans (resting_of_standing q.standing), fun b hb => ?_, ?_⟩
  · rw [← outputs_parkCmd hb]
    rcases h3 with ho | ⟨-, ho⟩
    · exact congrArg Outfit.parkCmd ho
    · exact congrArg Outfit.parkCmd ho
  · rcases h3 with ho | ⟨hs, ho⟩
    · exact (congrArg Outfit.join ho).trans (outputs_join v)
    · rw [state_of_standing q.standing] at hs
      rw [hs]
      exact congrArg Outfit.join ho

/-- An undisturbed station whose exits lead to a state that it keeps. -/
theorem settle_entered {s : State} {t : StationState} (hu : Undisturbed s) (he : s.agenda.ends = [])
    (hy : s.agenda.yields = []) (hx : s.agenda.exits = true) (hl : s.stc.lifted = liftAsked s)
    (hm : exitMove (tendHandoff (atExits s)) = some (.goto t)) (hst : Stays (enterState t (tendHandoff (atExits s)))) :
    Entered (enterState t (tendHandoff (atExits s))) (settle s) := by
  have q := quietly_atExits s
  have hw := (hu.nearly q.toNearly).minor .tendHandoff
  have r := settle_exits hu he hy hx
  rw [testExits_some (s := atExits s) (followLift_of_eq (hl.trans (liftAsked_of_steady q.steady).symm)) hm] at r
  exact hst.entered (hw.enterState t fun e => absurd e (exitMove_goto hm).ne_leaving) r

/-! ### The hold-time timer (O34) -/

/-- An entry that is no hold entry keeps the counts (R94). -/
theorem Crm.counts_enter (t : StationState) (a : Option Int) (c : Crm) :
    (c.enter t false a).eOwn = c.eOwn ∧ (c.enter t false a).left = c.left ∧ (c.enter t false a).right = c.right
      ∧ (c.enter t false a).axle = c.axle ∧ (c.enter t false a).d = c.d := by
  unfold Crm.enter
  simp only [Bool.false_eq_true, if_false]
  (repeat' split) <;> exact ⟨rfl, rfl, rfl, rfl, rfl⟩

/-- A hold entry sets the counts to zero (R94). -/
theorem Crm.zeroed_enter (t : StationState) (a : Option Int) (c : Crm) :
    (c.enter t true a).eOwn = 0 ∧ (c.enter t true a).left = 0 ∧ (c.enter t true a).right = 0
      ∧ (c.enter t true a).d = 0 := by
  unfold Crm.enter
  simp only [if_true]
  (repeat' split) <;> exact ⟨rfl, rfl, rfl, rfl⟩

/-- The entry to a state that is no hold entry. -/
theorem counts_enterState {t : StationState} {s : State} (h : isHoldEntry s.stc.state t = false) :
    (enterState t s).crm.eOwn = s.crm.eOwn ∧ (enterState t s).crm.left = s.crm.left ∧ (enterState t s).crm.right = s.crm.right
      ∧ (enterState t s).crm.axle = s.crm.axle ∧ (enterState t s).crm.d = s.crm.d := by
  have k := Crm.counts_enter t s.glu.accAverage s.crm
  rwa [← h] at k

theorem zeroed_enterState {t : StationState} {s : State} (h : isHoldEntry s.stc.state t = true) :
    (enterState t s).crm.eOwn = 0 ∧ (enterState t s).crm.left = 0 ∧ (enterState t s).crm.right = 0
      ∧ (enterState t s).crm.d = 0 := by
  have k := Crm.zeroed_enter t s.glu.accAverage s.crm
  rwa [← h] at k

theorem holdEntryTime_enterState (t : StationState) (s : State) :
    (enterState t s).stc.holdEntryTime
      = if isHoldEntry s.stc.state t || isReentry s.stc.state t then s.now else s.stc.holdEntryTime := rfl

theorem exec_holdTimeTimerExpiry {s : State} (h : s.stc.holdTimer.isSome = true) :
    exec .holdTimeTimerExpiry s = .next (settle (holdTimeReached { s with stc := { s.stc with holdTimer := none } })) :=
  congrArg Host.Outcome.next (if_pos h)

/-- Settles O34: the time out of a hold is an entry to SECURED, which stays; in LEAVING nothing follows the mark. -/
theorem holdTimeLimit : Obligations.HoldTimeLimit := by
  intro s h ht
  refine ⟨fun hs hc hr => ?_, fun hs => ?_⟩
  · have hu : Undisturbed { s with stc := { s.stc with holdTimer := none } } := by
      obtain ⟨h1, h2, h3, h4, h5, h6, h7, h8, h9⟩ := Undisturbed.of_calm hc h.1
      exact ⟨h1, h2, h3, h4, h5, h6, h7, h8, h9⟩
    have hv := hu.enterState .secured (by simp)
    have hst : Stays (enterState .secured { s with stc := { s.stc with holdTimer := none } }) := .secured rfl hr
    have e := hst.entered hv (settle_acts _)
    have hx : holdTimeReached { s with stc := { s.stc with holdTimer := none } }
        = afterMove (enterState .secured { s with stc := { s.stc with holdTimer := none } }) := by
      simp only [holdTimeReached, hs, moveTo]
    rw [← hx] at e
    refine ⟨_, exec_holdTimeTimerExpiry ht, state_of_resting e.resting,
      holdTimer_of_resting e.resting, e.park _ rfl, e.join,
      (eOwn_of_resting e.resting).trans (counts_enterState (by simp [hs, isHoldEntry])).1,
      (holdEntryTime_of_resting e.resting).trans ?_⟩
    rw [holdEntryTime_enterState]
    simp [hs, isHoldEntry, isReentry]
  · have hx : holdTimeReached { s with stc := { s.stc with holdTimer := none } }
        = { s with stc := { s.stc with holdTimer := none, limitMark := true } } := by
      simp only [holdTimeReached, hs]
    rw [exec_holdTimeTimerExpiry ht, hx, settle_of_settled]
    obtain ⟨⟨h1, h2, h3, h4, h5⟩, h6, h7, h8, h9⟩ := h.agree
    exact Agree.settled ⟨⟨h1, h2, h3, h4, h5⟩, h6, h7, h8, h9⟩ h.1

end Sys2Proof.Machine
end

section
/-! PROOFS. The lowering timer (O35). -/

namespace Sys2Proof.Machine

set_option Elab.async false

/-- A station that stands with its axle down and nothing to hand off: it may go on to a hold, but not back to FREE. -/
structure Stands (s : State) : Prop where
  calm : Undisturbed s
  state : s.stc.state = .standstill ∨ s.stc.state = .holding ∨ s.stc.state = .secured
  stationary : s.ptb.vehicleStationary = true
  raw : rawOf s = true
  lifted : s.stc.lifted = false
  timer : s.stc.loweringTimer = none
  lift : liftAsked s = false
  inhibit : s.suc.inhibit = false

theorem stands_enterState {s : State} (hu : Undisturbed s) (hv : s.ptb.vehicleStationary = true) (hr : rawOf s = true)
    (hl : s.stc.lifted = false) (ht : s.stc.loweringTimer = none) (ha : liftAsked s = false) (hi : s.suc.inhibit = false)
    {t : StationState} (hs : t = .standstill ∨ t = .holding ∨ t = .secured) : Stands (enterState t s) where
  calm := hu.enterState t (by rcases hs with rfl | rfl | rfl <;> simp)
  state := hs
  stationary := hv
  raw := by rw [rawOf_of_steady (steady_enterState t s)]; exact hr
  lifted := hl
  timer := by
    show (if t = .failed then none else s.stc.loweringTimer) = none
    rw [ht, ite_self]
  lift := by rw [liftAsked_of_steady (steady_enterState t s)]; exact ha
  inhibit := hi

theorem Stands.enterState {s : State} (h : Stands s) {t : StationState}
    (ht : t = .standstill ∨ t = .holding ∨ t = .secured) : Stands (enterState t s) :=
  stands_enterState h.calm h.stationary h.raw h.lifted h.timer h.lift h.inhibit ht

theorem Stands.hop {s t : State} (h : Stands s) (r : Hop s t) : Stands t := by
  have hu := h.calm
  have hst := h.state
  have no (x : StationState) (h1 : x ≠ .standstill) (h2 : x ≠ .holding) (h3 : x ≠ .secured) : s.stc.state ≠ x := by
    rintro rfl
    rcases hst with h | h | h
    exacts [h1 h, h2 h, h3 h]
  have hx : ¬ exchanging s = true := fun hx => no .leaving (by simp) (by simp) (by simp) ((exchanging_iff s).1 hx).1
  cases r with
  | goto x hm =>
    cases exitMove_goto hm with
    | fails hf _ => simp [hu.failure] at hf
    | startsStanding hs | startsFree hs | resumes hs => exact absurd hs (no _ (by simp) (by simp) (by simp))
    | serves _ hi => simp [h.inhibit] at hi
    | stands hs => rcases hs with hs | hs <;> exact absurd hs (no _ (by simp) (by simp) (by simp))
    | secures _ _ => exact h.enterState (.inr (.inr rfl))
    | lifts _ _ hl => simp [h.lifted, h.stationary] at hl
    | holds _ _ => exact h.enterState (.inr (.inl rfl))
  | peerShows n hm => exact absurd hu.alarms (exitMove_peerAlarm hm)
  | peerAlarm n rest hp _ => simp [hu.peerAlarms] at hp
  | rollaway c rest hp _ => simp [hu.rollaways] at hp
  | exchange hm =>
    have := (exitMove_exchange hm).2
    simp [exchangeReady, handoffReason, h.lift, h.inhibit] at this
  | withdraw hm => exact absurd (exitMove_withdraw hm).1 hx
  | yield m rest _ hy => exact absurd hy hx
  | unparked e rest he ho _ => simp [hu.ends e (by rw [he]; exact List.mem_cons_self)] at ho
  | rampOver hs _ _ | released hs _ _ | reheldAtOnce hs _ _ _ => exact absurd hs (no _ (by simp) (by simp) (by simp))
  | reheld ha _ => simp [hu.abortEvent] at ha
  | aborted _ hr _ | abortedByPeer _ hr =>
    exact absurd ((releaseInProgress_iff s).1 hr).1 (no _ (by simp) (by simp) (by simp))

theorem kept_stands : Kept Stands where
  nearly := fun s t h q =>
    { calm := h.calm.nearly q
      state := by rw [state_of_standing q.standing]; exact h.state
      stationary := q.stays h.stationary h.raw
      raw := (rawOf_of_steady q.steady).trans h.raw
      lifted := (congrArg (fun x => x.stc.lifted) q.standing).trans h.lifted
      timer := (congrArg (fun x => x.stc.loweringTimer) q.standing).trans h.timer
      lift := (liftAsked_of_steady q.steady).trans h.lift
      inhibit := (inhibit_of_steady q.steady).trans h.inhibit }
  followLift := fun s h => by
    rwa [followLift_of_eq (h.lifted.trans h.lift.symm)]
  hop := fun _ _ => Stands.hop
  minor := fun s t h m =>
    have hl : t.stc.lifted = s.stc.lifted ∧ t.stc.loweringTimer = s.stc.loweringTimer
        ∧ t.ptb = s.ptb := by
      cases m with
      | deferAsk => unfold deferAsk; split <;> exact ⟨rfl, rfl, rfl⟩
      | testUnpark => unfold testUnpark; dsimp only; (repeat' split) <;> exact ⟨rfl, rfl, rfl⟩
      | _ => exact ⟨rfl, rfl, rfl⟩
    { calm := h.calm.minor m
      state := by rw [state_minor m]; exact h.state
      stationary := by rw [hl.2.2]; exact h.stationary
      raw := (rawOf_of_steady (steady_minor m)).trans h.raw
      lifted := hl.1.trans h.lifted
      timer := hl.2.1.trans h.timer
      lift := (liftAsked_of_steady (steady_minor m)).trans h.lift
      inhibit := (inhibit_of_steady (steady_minor m)).trans h.inhibit }

/-- A settled station with vehicle-stationary set has the raw condition of it (R36). -/
theorem Settled.raw {s : State} (h : Settled s) (hv : s.ptb.vehicleStationary = true) : rawOf s = true := by
  have h1 : (s.ptb.vehicleStationary && rawStationary (own s) s.ptb.entries) = s.ptb.vehicleStationary :=
    congrArg Ptb.vehicleStationary h.agree.table
  have h2 : (s.ptb.entries.get (own s)).flags.standstill = s.crm.standstill :=
    congrArg (fun e => e.flags.standstill) h.agree.entry
  simp only [hv, Bool.true_and, rawStationary, h2] at h1
  exact h1

theorem exec_loweringTimerExpiry {s : State} (h : s.stc.loweringTimer.isSome = true) :
    exec .loweringTimerExpiry s = .next (settle (askExits { s with stc := { s.stc with loweringTimer := none } })) :=
  congrArg Host.Outcome.next (if_pos h)

/-- A FREE station that may stand does (R5). -/
theorem exitMove_of_free {s : State} (hu : Undisturbed s) (hs : s.stc.state = .free) (hi : s.suc.inhibit = false)
    (hv : s.ptb.vehicleStationary = true) (hl : s.stc.lifted = false) (ht : s.stc.loweringTimer = none) :
    exitMove s = some (.goto .standstill) := by
  rw [hu.exitMove]
  simp [stateExit, hs, hi, standstillAllowed, hv, hl, ht]

/-- A FREE station with its axle down that tests its exits on a standing vehicle leaves FREE for good. -/
theorem settle_of_free {s : State} (hu : Undisturbed s) (he : s.agenda.ends = []) (hy : s.agenda.yields = []) (hx : s.agenda.exits = true)
    (hs : s.stc.state = .free) (hi : s.suc.inhibit = false) (hv : s.ptb.vehicleStationary = true) (hr : rawOf s = true)
    (hl : s.stc.lifted = false) (ht : s.stc.loweringTimer = none) (ha : liftAsked s = false) : Stands (settle s) := by
  have q := quietly_atExits s
  have hv2 := q.stays hv hr
  have ha2 := (liftAsked_of_steady q.steady).trans ha
  have hw := (hu.nearly q.toNearly).minor .tendHandoff
  have r := settle_exits hu he hy hx
  rw [testExits_some (s := atExits s) (followLift_of_eq (hl.trans ha2.symm)) (exitMove_of_free hw hs hi hv2 hl ht)] at r
  have hst : Stands (applyMove (.goto .standstill) (tendHandoff (atExits s))) :=
    stands_enterState hw hv2 ((rawOf_of_steady q.steady).trans hr) hl ht ha2 hi (.inl rfl)
  exact kept_stands.run (kept_stands.afterMove hst) r

/-- Settles O35: a FREE station either stays or, standing with its axle down, leaves for a state that does not lead back. -/
theorem loweringEnds : Obligations.LoweringEnds := by
  intro s h hc hs hl hi ht
  have hu : Undisturbed (askExits { s with stc := { s.stc with loweringTimer := none } }) := by
    obtain ⟨h1, h2, h3, h4, h5, h6, h7, h8, h9⟩ := Undisturbed.of_calm hc h.1
    exact ⟨h1, h2, h3, h4, h5, h6, h7, h8, h9⟩
  refine ⟨_, exec_loweringTimerExpiry ht, ?_⟩
  by_cases hv : s.ptb.vehicleStationary = false ∨ s.stc.lifted = true
  · have hst : Stays (askExits { s with stc := { s.stc with loweringTimer := none } }) :=
      .free hs hi hl (hv.imp_right .inl)
    have r := (hst.settle hu).2.2
    have e1 := congrArg (fun x => x.stc.lifted) r.resting
    refine ⟨congrArg (fun x => x.stc.loweringTimer) r.resting, e1, fun hv1 hl1 => ?_, fun _ => r.state.trans hs⟩
    rcases hv with hv | hv
    · simp [hv] at hv1
    · simp [hv] at hl1
  · simp only [not_or, Bool.not_eq_false, Bool.not_eq_true] at hv
    obtain ⟨hv, hl0⟩ := hv
    have e : Stands (settle (askExits { s with stc := { s.stc with loweringTimer := none } })) :=
      settle_of_free hu (congrArg Agenda.ends h.1) (congrArg Agenda.yields h.1) rfl hs hi hv (h.raw hv) hl0 rfl (hl.symm.trans hl0)
    refine ⟨e.timer, e.lifted.trans hl0.symm, fun _ _ => ?_, fun hc => ?_⟩
    · rcases e.state with hs | hs | hs <;> simp [hs]
    · simp [hv, hl0] at hc

end Sys2Proof.Machine
end

section
/-! PROOFS. The CAB notices that move a station (O39, O40). -/

namespace Sys2Proof.Machine

set_option Elab.async false

/-! ### A CAB notice taken -/

theorem agenda_reformAnswers (s : State) : (reformAnswers s).agenda = s.agenda ∧ (reformAnswers s).hpl = s.hpl := by
  have h1 (u : State) (n : StationNo) : (reformAnswer u n).agenda = u.agenda ∧ (reformAnswer u n).hpl = u.hpl := by
    unfold reformAnswer
    (repeat' split) <;> exact ⟨rfl, rfl⟩
  have h (l : List StationNo) (u : State) :
      (l.foldl reformAnswer u).agenda = u.agenda ∧ (l.foldl reformAnswer u).hpl = u.hpl := by
    induction l generalizing u with
    | nil => exact ⟨rfl, rfl⟩
    | cons n l ih => exact ⟨(ih _).1.trans (h1 u n).1, (ih _).2.trans (h1 u n).2⟩
  exact h _ s

theorem agenda_setPlanPending (s : State) : (setPlanPending s).agenda = s.agenda ∧ (setPlanPending s).hpl = s.hpl := by
  unfold setPlanPending
  split
  · exact ⟨rfl, rfl⟩
  · exact agenda_reformAnswers _

theorem quietly_cabReports (x : CabChange) (s : State) : Quietly s (cabReports x s) := by
  have h : Quietly s (if x.handControls then setPlanPending s else s) := by
    split
    · exact quietly_setPlanPending s
    · exact .refl s
  exact h.trans (quietly_agenda _ _ (.of_agenda rfl rfl rfl rfl rfl rfl))

/-- The reports of a CAB notice ask for tests and end no step; the plan is as it was. -/
theorem cabReports_asks (x : CabChange) (s : State) :
    (cabReports x s).agenda.ends = s.agenda.ends ∧ (cabReports x s).agenda.yields = s.agenda.yields
      ∧ (cabReports x s).agenda.exits = true ∧ (cabReports x s).hpl = s.hpl := by
  have h := agenda_setPlanPending s
  unfold cabReports
  dsimp only
  split
  · exact ⟨congrArg Agenda.ends h.1, congrArg Agenda.yields h.1, rfl, h.2⟩
  · exact ⟨rfl, rfl, rfl, rfl⟩

/-- The state with a CAB notice written, before its reports. -/
def withCab (p : List Byte) (s : State) : State := writeCab p { s with lnk := s.lnk.heard }

/-- A CAB notice of origin 8 is taken: its record, its reports, and the acknowledgement. -/
theorem exec_cabNotice {p : List Byte} {s : State} (hl : listening s = true) (hp : 8 ≤ p.length) :
    exec (.cabNotice 8 p) s = .next (settle (testAcknowledgement (armAcknowledgement
      (cabReports (cabChange (cabNow s) (readCab p)) (withCab p s))))) := by
  have ho : ¬ (8 : Origin).val = (own s).val := by have := (own s).isLt; simp; omega
  show Host.Outcome.next (receiveFrom 8 none _ s) = _
  rw [receiveFrom, if_pos hl]
  dsimp only
  rw [if_neg ho, if_pos (by simp [hp])]
  rfl

/-- Out of ALARM no acknowledgement is in question. -/
theorem exec_cabNotice_of_ne {p : List Byte} {s : State} (hl : listening s = true) (hp : 8 ≤ p.length)
    (hs : s.stc.state ≠ .alarm) :
    exec (.cabNotice 8 p) s = .next (settle (cabReports (cabChange (cabNow s) (readCab p)) (withCab p s))) := by
  rw [exec_cabNotice hl hp]
  have h1 : (cabReports (cabChange (cabNow s) (readCab p)) (withCab p s)).stc.state ≠ .alarm := by
    rw [state_of_standing (quietly_cabReports _ _).standing]
    exact hs
  rw [armAcknowledgement, if_neg (by simp [h1]), testAcknowledgement, if_neg (by simp [h1])]

theorem undisturbed_withCab {s : State} (h : Undisturbed s) (p : List Byte) : Undisturbed (withCab p s) :=
  ⟨h.failure, h.alarms, h.ends, h.rollaways, h.peerAlarms, h.yields, h.abortEvent, h.near, h.threshold⟩

/-- The lift bit of the notice is not one that asks for this axle, and no INHIBIT stands: there is no hand-off reason. -/
theorem no_handoffReason {p : List Byte} {s : State} (hi : s.suc.inhibit = false)
    (hl : ((readCab p).liftBits.getLsbD (own s).val && liftRole s) = false) :
    liftAsked (withCab p s) = false ∧ handoffReason (withCab p s) = false := by
  have h : liftAsked (withCab p s) = false := hl
  refine ⟨h, ?_⟩
  rw [handoffReason, h]
  exact hi

theorem securing_withCab (p : List Byte) (s : State) :
    securing (withCab p s) = ((readCab p).park || !(readCab p).driver || !(readCab p).ignition) := by
  show ((readCab p).park || !(readCab p).driver || !(readCab p).ignition || !true) = _
  rw [Bool.not_true, Bool.or_false]

/-! ### The two hold entries (O39) -/

/-- A STANDSTILL or HOLDING station under a securing condition secures (R8, R10). -/
theorem exitMove_secures {s : State} (hu : Undisturbed s) (hs : s.stc.state = .standstill ∨ s.stc.state = .holding)
    (hi : s.suc.inhibit = false) (hr : handoffReason s = false) (hc : securing s = true) :
    exitMove s = some (.goto .secured) := by
  rw [hu.exitMove]
  rcases hs with hs | hs
  · simp [stateExit, hs, hi, hc]
  · simp [stateExit, hs, exchangeReady, hr, hc]

/-- A STANDSTILL station under the hill hold condition holds (R7). -/
theorem exitMove_holds {s : State} (hu : Undisturbed s) (hs : s.stc.state = .standstill)
    (hi : s.suc.inhibit = false) (hl : s.stc.lifted = false) (hv : s.ptb.vehicleStationary = true)
    (hc : securing s = false) (hh : hillHold s = true) : exitMove s = some (.goto .holding) := by
  rw [hu.exitMove]
  simp [stateExit, hs, hi, hc, hl, hv, hh]

/-- Settles O39: in each case the exits are the first report, and the state entered stays. -/
theorem securingTakesEffect : Obligations.SecuringTakesEffect := by
  refine ⟨?_, ?_⟩
  · intro p s h hc hln hp hs hi hl hb hsec
    have hu := undisturbed_withCab (Undisturbed.of_calm hc h.1) p
    have hne : s.stc.state ≠ .alarm := by rcases hs with hs | hs <;> simp [hs]
    obtain ⟨ha, hr⟩ := no_handoffReason hi hb
    have q := quietly_cabReports (cabChange (cabNow s) (readCab p)) (withCab p s)
    obtain ⟨he, hy, hx, -⟩ := cabReports_asks (cabChange (cabNow s) (readCab p)) (withCab p s)
    refine ⟨_, exec_cabNotice_of_ne hln hp hne, ?_⟩
    generalize cabReports (cabChange (cabNow s) (readCab p)) (withCab p s) = u at q he hy hx ⊢
    have n := q.toNearly.trans (quietly_atExits u).toNearly
    have hw := (hu.nearly n).minor .tendHandoff
    have hst : (tendHandoff (atExits u)).stc.state = s.stc.state :=
      show (atExits u).stc.state = (withCab p s).stc.state from state_of_standing n.standing
    have hrw : handoffReason (tendHandoff (atExits u)) = false := (handoffReason_of_steady n.steady).trans hr
    have hcw : securing (tendHandoff (atExits u)) = true := by
      refine (securing_of_steady n.steady).trans ((securing_withCab p s).trans ?_)
      rcases hsec with hx | hx | hx <;> simp [hx]
    have hm := exitMove_secures hw (by rwa [hst]) ((inhibit_of_steady n.steady).trans hi) hrw hcw
    have e := settle_entered (hu.nearly q.toNearly) (he.trans (congrArg Agenda.ends h.1))
      (hy.trans (congrArg Agenda.yields h.1)) hx
      ((congrArg (fun x => x.stc.lifted) q.standing).trans (hl.trans ((liftAsked_of_steady q.steady).trans ha).symm)) hm
      (.secured rfl hrw)
    refine ⟨state_of_resting e.resting, e.park _ rfl, e.join,
      holdTimer_of_resting e.resting, fun hs => ?_, fun hs => ?_⟩
    · have hb : isHoldEntry (tendHandoff (atExits u)).stc.state .secured = true := by rw [hst, hs]; rfl
      obtain ⟨z1, z2, z3, z4⟩ := zeroed_enterState hb
      refine ⟨(holdEntryTime_of_resting e.resting).trans ?_,
        (eOwn_of_resting e.resting).trans z1, (left_of_resting e.resting).trans z2,
        (right_of_resting e.resting).trans z3, (d_of_resting e.resting).trans z4⟩
      rw [holdEntryTime_enterState, hb]
      exact congrArg Steady.now n.steady
    · have hb : isHoldEntry (tendHandoff (atExits u)).stc.state .secured = false := by rw [hst, hs]; rfl
      refine ⟨(holdEntryTime_of_resting e.resting).trans ?_,
        ((eOwn_of_resting e.resting).trans (counts_enterState hb).1).trans
          (congrArg (fun x => x.crm.eOwn) n.standing)⟩
      rw [holdEntryTime_enterState, hb, hst, hs]
      exact congrArg (fun x => x.stc.holdEntryTime) n.standing
  · intro p s g h hc hln hp hs hv hi hl hb hpark hdr hig hped hg hth hforce
    have hu := undisturbed_withCab (Undisturbed.of_calm hc h.1) p
    obtain ⟨ha, hr⟩ := no_handoffReason hi hb
    have q := quietly_cabReports (cabChange (cabNow s) (readCab p)) (withCab p s)
    obtain ⟨he, hy, hx, hh⟩ := cabReports_asks (cabChange (cabNow s) (readCab p)) (withCab p s)
    refine ⟨_, exec_cabNotice_of_ne hln hp (by simp [hs]), ?_⟩
    generalize cabReports (cabChange (cabNow s) (readCab p)) (withCab p s) = u at q he hy hx hh ⊢
    have n := q.toNearly.trans (quietly_atExits u).toNearly
    have hw := (hu.nearly n).minor .tendHandoff
    have hst : (tendHandoff (atExits u)).stc.state = .standstill :=
      (show (atExits u).stc.state = (withCab p s).stc.state from state_of_standing n.standing).trans hs
    have hrw : handoffReason (tendHandoff (atExits u)) = false := (handoffReason_of_steady n.steady).trans hr
    have hcw : securing (tendHandoff (atExits u)) = false :=
      (securing_of_steady n.steady).trans ((securing_withCab p s).trans (by simp [hpark, hdr, hig]))
    have h3 : (tendHandoff (atExits u)).suc = s.suc :=
      show (atExits u).suc = (withCab p s).suc from suc_of_steady n.steady
    have hhill : hillHold (tendHandoff (atExits u)) = true := by
      have h1 : cabNow (tendHandoff (atExits u)) = readCab p := cabNow_of_steady n.steady
      have h2 : (tendHandoff (atExits u)).hpl = s.hpl := hh
      have h4 : (tendHandoff (atExits u)).ptb.cab.fresh = true := congrArg CabRecord.fresh (cab_of_steady n.steady)
      simp [hillHold, h1, h2, h3, h4, hcw, hped, hg, hth, hforce]
    have hm := exitMove_holds hw hst ((inhibit_of_steady n.steady).trans hi)
      ((congrArg (fun x => x.stc.lifted) n.standing).trans hl) (n.stays hv (h.raw hv)) hcw hhill
    have e := settle_entered (hu.nearly q.toNearly) (he.trans (congrArg Agenda.ends h.1))
      (hy.trans (congrArg Agenda.yields h.1)) hx
      ((congrArg (fun x => x.stc.lifted) q.standing).trans (hl.trans ((liftAsked_of_steady q.steady).trans ha).symm)) hm
      (.holding rfl hcw hrw)
    have hb : isHoldEntry (tendHandoff (atExits u)).stc.state .holding = true := by rw [hst]; rfl
    obtain ⟨z1, z2, z3, z4⟩ := zeroed_enterState hb
    refine ⟨state_of_resting e.resting, e.park _ rfl, e.join,
      (holdTimer_of_resting e.resting).trans ?_, (holdEntryTime_of_resting e.resting).trans ?_,
      (eOwn_of_resting e.resting).trans z1, (left_of_resting e.resting).trans z2,
      (right_of_resting e.resting).trans z3, (d_of_resting e.resting).trans z4,
      (congrArg (fun x => x.crm.watch) e.resting).trans (Crm.watch_enter _ _ _ _)⟩
    · show holdTimerAt (tendHandoff (atExits u)).stc.state .holding ((tendHandoff (atExits u)).suc.vehicle.holdLimit * 1000) _ = _
      rw [hst, h3]
      rfl
    · rw [holdEntryTime_enterState, hb]
      exact congrArg Steady.now n.steady

/-! ### The acknowledgement (O40) -/

theorem get_foldl_set {α : Type} (f : StationNo → α) (l : List StationNo) (t : Table α) (n : StationNo)
    (h : n ∈ l ∨ t.get n = f n) : (l.foldl (fun t n => t.set n (f n)) t).get n = f n := by
  induction l generalizing t with
  | nil => simpa using h
  | cons m l ih =>
    refine ih _ ?_
    by_cases hm : n = m
    · right; rw [hm, Table.get_set_self]
    · rw [Table.get_set_of_ne _ _ hm]
      simpa [hm] using h

/-- The acknowledgement takes every peer that shows an alarm (R143). -/
theorem unacknowledgedAlarms_acknowledged (s : State) (b : Bool) (l : Lnk) :
    unacknowledgedAlarms { s with alarm := { s.alarm with ackPeers := alarmPeers s, ackArmed := b }, lnk := l } = [] := by
  refine List.filter_eq_nil_iff.2 (fun n hn => ?_)
  have hg : (alarmPeers s).get n = (entryOf s n).showsAlarm := get_foldl_set _ _ _ _ (.inl hn)
  show ¬ ((entryOf s n).showsAlarm && !(alarmPeers s).get n) = true
  rw [hg]
  simp

/-- Settles O40: the acknowledgement is an entry to SECURED, which stays. -/
theorem acknowledgementEndsAlarm : Obligations.AcknowledgementEndsAlarm := by
  intro p s h hln hp hs hf hi hth harm hpark hw hb hack hdr hped hpk
  have q := quietly_cabReports (cabChange (cabNow s) (readCab p)) (withCab p s)
  obtain ⟨he, -, -, -⟩ := cabReports_asks (cabChange (cabNow s) (readCab p)) (withCab p s)
  refine ⟨_, exec_cabNotice hln hp, ?_⟩
  generalize cabReports (cabChange (cabNow s) (readCab p)) (withCab p s) = r at q he ⊢
  have hst : r.stc.state = .alarm := (state_of_standing q.standing).trans hs
  have hcab : cabNow r = readCab p := cabNow_of_steady q.steady
  have hfr : r.ptb.cab.fresh = true := congrArg CabRecord.fresh (cab_of_steady q.steady)
  have ha : r.alarm.ackArmed = true := (congrArg (fun x => x.alarm.ackArmed) q.standing).trans harm
  have hx : testAcknowledgement (armAcknowledgement r) = acknowledge r := by
    rw [armAcknowledgement, if_neg (by simp [hcab, hack]), testAcknowledgement,
      if_pos (by simp [hst, ha, acknowledgementShown, hcab, hfr, hack, hdr, hped, hpk])]
  have ag : s.agenda = {} := h.1
  have hu : Undisturbed { r with
      alarm := { r.alarm with ackPeers := alarmPeers r, ackArmed := false }, lnk := { r.lnk with alarmSlot := none } } :=
    { failure := (failureRaised_of_nearly q.toNearly).trans hf
      alarms := unacknowledgedAlarms_acknowledged r _ _
      ends := by rw [show r.agenda.ends = [] from he.trans (congrArg Agenda.ends ag)]; simp
      rollaways := List.eq_nil_iff_forall_not_mem.2 (fun x hx => by
        rcases q.calls.rollaways x hx with hx | ⟨hx, -⟩
        · simp [withCab, writeCab, ag] at hx
        · exact absurd hx (by simp [withCab, writeCab, hw]))
      peerAlarms := List.eq_nil_iff_forall_not_mem.2 (fun n hn => by
        simpa [withCab, writeCab, ag] using q.calls.peerAlarms n hn)
      yields := fun _ => List.eq_nil_iff_forall_not_mem.2 (fun n hn => by simpa [withCab, writeCab, ag] using q.calls.yields n hn)
      abortEvent := by simpa [withCab, writeCab, ag] using mt q.calls.abortEvent
      near := fun hx => absurd ((watch_of_standing q.standing).symm.trans hx) (by simp [withCab, writeCab, hw])
      threshold := by
        have hv : r.suc = (withCab p s).suc := suc_of_steady q.steady
        show 0 < r.suc.vehicle.rollawayThreshold
        rw [hv]
        exact hth }
  have hr : handoffReason r = false := (handoffReason_of_steady q.steady).trans (no_handoffReason hi hb).2
  have e := Stays.entered (hu.enterState .secured (by simp)) (.secured rfl hr) (settle_acts _)
  rw [hx]
  refine ⟨state_of_resting e.resting, e.join, e.park _ rfl, congrArg (fun x => x.alarm.ackArmed) e.resting,
    congrArg (fun x => x.alarmSlot) e.resting, (holdEntryTime_of_resting e.resting).trans ?_,
    ((eOwn_of_resting e.resting).trans (counts_enterState ?_).1).trans (congrArg (fun x => x.crm.eOwn) q.standing)⟩
  · rw [holdEntryTime_enterState]
    simp only [hst, isHoldEntry, isReentry]
    exact congrArg (fun x => x.stc.holdEntryTime) q.standing
  · simp [hst, isHoldEntry]

end Sys2Proof.Machine
end

section
/-! PROOFS. The drive-off timer and the turn timer (O50). -/

namespace Sys2Proof.Machine

set_option Elab.async false

/-- Settling a state that is up to date and has nothing on its agenda forms the levels and no more. -/
theorem settle_of_synced {s : State} (h : Synced s) (ha : s.agenda = {}) : settle s = levels s := by
  have hs := h.sync
  rw [settle_of_quiet (by rw [hs, ha]), hs]

/-- A timer that runs while its condition lasts runs only under it. -/
theorem timerWhile_runs {b : Bool} {n : Nat} {t : Timer} (h : timerWhile b n t = t) (hs : t.isSome = true) : b = true := by
  cases b
  · cases t <;> simp_all [timerWhile]
  · rfl

theorem peerAborts_of_settled {s : State} (h : Settled s) : peerAborts s = s.ptb.abortPeer :=
  congrArg Ptb.abortPeer h.agree.table

/-! ### The drive-off timer -/

theorem rsq_of_resting {s t : State} (h : resting t = resting s) :
    t.rsq.entryGear = s.rsq.entryGear ∧ t.rsq.rollbackBase = s.rsq.rollbackBase
      ∧ ((t.rsq.phase = .waitingTurn ∨ t.rsq.phase = .ramping) ↔ (s.rsq.phase = .waitingTurn ∨ s.rsq.phase = .ramping)) := by
  have shows (u : State) : (resting u).rsq.entryGear = u.rsq.entryGear ∧ (resting u).rsq.rollbackBase = u.rsq.rollbackBase
      ∧ ((resting u).rsq.phase = .ramping ↔ (u.rsq.phase = .waitingTurn ∨ u.rsq.phase = .ramping)) := by
    unfold resting
    dsimp only
    split
    · rename_i hp
      exact ⟨rfl, rfl, by simp [Rsq.takeTurn, hp]⟩
    · rename_i hp
      exact ⟨rfl, rfl, by simp [standing, hp]⟩
  obtain ⟨h1, h2, h3⟩ := shows t
  obtain ⟨k1, k2, k3⟩ := shows s
  rw [h] at h1 h2 h3
  exact ⟨h1.symm.trans k1, h2.symm.trans k2, h3.symm.trans k3⟩

/-- The entry to RELEASING takes the gear and the rollback base, and waits for a turn (R124). -/
theorem Rsq.startRelease_enter (f : StationState) (g : Option Direction) (d : Int) (r : Rsq) :
    (r.enter f .releasing g d).entryGear = g ∧ (r.enter f .releasing g d).rollbackBase = d
      ∧ (r.enter f .releasing g d).phase = .waitingTurn := ⟨rfl, rfl, rfl⟩

theorem exec_driveOffTimerExpiry {s : State} (h : s.rsq.driveOffTimer.isSome = true) (hs : s.stc.state = .holding) :
    exec .driveOffTimerExpiry s
      = .next (settle (afterMove (enterState .releasing { s with rsq := { s.rsq with driveOffTimer := none } }))) := by
  have h1 : execDriveOffTimerExpiry s = _ := congrArg Host.Outcome.next (if_pos h)
  rw [show exec .driveOffTimerExpiry s = _ from h1]
  dsimp only
  rw [if_pos hs, moveTo]

theorem exec_turnTimerExpiry {s : State} (h : s.rsq.turnTimer.isSome = true) (hs : s.stc.state = .releasing)
    (hp : s.rsq.phase = .waitingTurn) :
    exec .turnTimerExpiry s = .next (settle (takeTurn { s with rsq := { s.rsq with turnTimer := none } })) := by
  have h1 : execTurnTimerExpiry s = _ := congrArg Host.Outcome.next (if_pos h)
  rw [show exec .turnTimerExpiry s = _ from h1]
  dsimp only
  rw [if_pos (by simp [hs, hp])]

/-- A profile of two steps appended under RELEASE with nothing held: the first is taken into flight (R75, R79). -/
theorem Mod.append_release {n : Nat} {m : Mod} {x y : Step} (hj : m.join = .release) (hq : m.queue = [])
    (hf : m.inFlight = none) (hx : x.target ≤ n) (hy : y.target ≤ n) :
    m.append n .release [x, y] = { mod := ({ m with queue := [y] } : Mod).beginStep x } := by
  have hcx : clampStep n x = x := if_neg (by omega)
  have hcy : clampStep n y = y := if_neg (by omega)
  unfold Mod.append
  rw [if_pos (by rw [hj]; rfl)]
  simp only [List.map_cons, List.map_nil, hcx, hcy]
  unfold Mod.placeBehind
  rw [if_pos (by simp [hq, queueLimit])]
  simp [Mod.startNext, hf, hq]

/-- Settles O50: the entry to RELEASING stays, and a turn changes nothing that a report follows. -/
theorem releaseBegins : Obligations.ReleaseBegins := by
  refine ⟨fun s h hc hs ht hl => ?_, fun s h hs hp ht hj hq hf hm => ?_⟩
  · have hu : Undisturbed { s with rsq := { s.rsq with driveOffTimer := none } } := by
      obtain ⟨h1, h2, h3, h4, h5, h6, h7, h8, h9⟩ := Undisturbed.of_calm hc h.1
      exact ⟨h1, h2, h3, h4, h5, h6, h7, h8, h9⟩
    have hr : driveOffRuns s = true := timerWhile_runs h.agree.driveOff ht
    have ha : s.ptb.abortPeer = false := by
      simp only [driveOffRuns, Bool.and_eq_true, Bool.not_eq_true'] at hr
      exact hr.2
    have hb : isHoldEntry s.stc.state .releasing = false := by rw [hs]; rfl
    have hd := (counts_enterState (s := { s with rsq := { s.rsq with driveOffTimer := none } }) hb).2.2.2.2
    have hst : Stays (enterState .releasing { s with rsq := { s.rsq with driveOffTimer := none } }) := by
      refine .releasing rfl (by simp [enterState, (Rsq.startRelease_enter _ _ _ _).2.2]) ha ?_ ?_ (.inr (.inl rfl))
      · exact (peerAborts_of_steady (steady_enterState _ _)).trans ((peerAborts_of_settled h).trans ha)
      · rw [hd]
        show (s.crm.d - s.crm.d).natAbs < _
        simpa using hl
    have e := hst.entered (hu.enterState _ (by simp)) (settle_acts _)
    refine ⟨_, exec_driveOffTimerExpiry ht hs, ?_⟩
    obtain ⟨h1, h2, h3⟩ := rsq_of_resting e.resting
    have hst := state_of_resting e.resting
    refine ⟨hst, e.join, e.park _ rfl, congrArg Standing.planLock e.resting, h1, h2, holdTimer_of_resting e.resting, ?_,
      h3.2 (.inl rfl)⟩
    rw [← (settle_settled _).agree.driveOff, driveOffTimerOf, driveOffRuns, hst]
    rfl
  · have ha := Mod.append_release (n := s.hpl.pTop) (x := { target := s.mod.pMeas / 2, rate := 2000, source := .release })
      (y := { target := 0, rate := 1000, source := .release }) hj hq hf
      (show s.mod.pMeas / 2 ≤ _ by omega) (Nat.zero_le _)
    have hx : takeTurn { s with rsq := { s.rsq with turnTimer := none } } = { s with
        rsq := s.rsq.takeTurn
        mod := ({ s.mod with queue := [{ target := 0, rate := 1000, source := .release }] } : Mod).beginStep
          { target := s.mod.pMeas / 2, rate := 2000, source := .release } } := by
      unfold takeTurn appendSteps releaseProfile takeModResult
      simp [ha, Rsq.takeTurn]
    refine ⟨_, exec_turnTimerExpiry ht hs hp, ?_⟩
    obtain ⟨⟨h1, h2, h3, h4, h5⟩, -⟩ := h.agree
    rw [hx, settle_of_synced ?_ ?_]
    · exact ⟨rfl, rfl, rfl, ⟨rfl, rfl, rfl⟩, rfl, rfl⟩
    · exact ⟨h1, h2, h3, h4, h5⟩
    · exact h.1

end Sys2Proof.Machine
end

section
/-! PROOFS. The attempts of an exchange and the retry wait (O49). -/

namespace Sys2Proof.Machine

set_option Elab.async false

/-! ### An exchange that has ended does not start again at once -/

/-- No exchange is under way, and one that a reason asks for waits (R106, R112). -/
structure OutOfExchange (s : State) : Prop where
  phase : s.hoe.phase ≠ .exchange
  state : s.stc.state ≠ .leaving
  timer : s.hoe.attemptTimer = none
  waits : handoffReason s = true → s.hoe.retryWait.isSome = true

@[simp] theorem Hoe.retryWait_enter (t : StationState) (h : Hoe) : (h.enter t).retryWait = h.retryWait := by
  unfold Hoe.enter
  (repeat' split) <;> rfl

theorem Hoe.attemptTimer_enter {h : Hoe} (hn : h.attemptTimer = none) (t : StationState) :
    (h.enter t).attemptTimer = none := by
  unfold Hoe.enter
  (repeat' split) <;> first | exact hn | rfl

theorem OutOfExchange.enterState {s : State} (h : OutOfExchange s) {t : StationState} (ht : t ≠ .leaving) :
    OutOfExchange (enterState t s) where
  phase := by
    show (s.hoe.enter t).phase ≠ .exchange
    rw [Hoe.phase_enter]
    have := h.phase
    have hd : (if s.hoe.phase = .deferred then LeaverPhase.idle else s.hoe.phase) ≠ .exchange := by
      split
      · simp
      · exact this
    cases t <;> first | exact this | exact hd | simp
  state := ht
  timer := Hoe.attemptTimer_enter h.timer t
  waits := fun hr => by
    show ((s.hoe.enter t).retryWait).isSome = true
    rw [Hoe.retryWait_enter]
    exact h.waits (by rwa [handoffReason_of_steady (steady_enterState t s)] at hr)

theorem OutOfExchange.followLift {s : State} (h : OutOfExchange s) : OutOfExchange (followLift s) := by
  unfold Machine.followLift
  split
  · exact ⟨h.phase, h.state, h.timer, h.waits⟩
  · exact h

theorem OutOfExchange.takeAlarmCause {s : State} (h : OutOfExchange s) (c : AlarmCause) :
    OutOfExchange (takeAlarmCause c s) := by
  unfold Machine.takeAlarmCause
  split
  · refine OutOfExchange.enterState (t := .alarm) ?_ (by simp)
    exact ⟨h.phase, h.state, h.timer, h.waits⟩
  · exact ⟨h.phase, h.state, h.timer, h.waits⟩

theorem OutOfExchange.rehold {s : State} (h : OutOfExchange s) : OutOfExchange (rehold s) := by
  have h1 : OutOfExchange { s with rsq := s.rsq.closeWindow } := ⟨h.phase, h.state, h.timer, h.waits⟩
  unfold Machine.rehold
  dsimp only
  split
  · exact h1
  · exact h1.enterState (by simp)

theorem OutOfExchange.released {s : State} (h : OutOfExchange s) : OutOfExchange (released s) := by
  obtain ⟨h1, h2, h3, h4⟩ := h.enterState (t := .free) (by simp)
  exact OutOfExchange.followLift ⟨h1, h2, h3, h4⟩

theorem OutOfExchange.hop {s t : State} (h : OutOfExchange s) (r : Hop s t) : OutOfExchange t := by
  have hx : ¬ exchanging s = true := fun hx => h.phase ((exchanging_iff s).1 hx).2
  have pop (a : Agenda) : OutOfExchange { s with agenda := a } := ⟨h.phase, h.state, h.timer, h.waits⟩
  cases r with
  | goto x hm => exact h.enterState (exitMove_goto hm).ne_leaving
  | peerShows n _ => exact h.takeAlarmCause _
  | peerAlarm n rest _ _ => exact (pop _).takeAlarmCause _
  | rollaway c rest _ ha =>
    rw [takeRollaway, if_pos ha]
    refine OutOfExchange.enterState (t := .alarm) ?_ (by simp)
    exact ⟨h.phase, h.state, h.timer, h.waits⟩
  | exchange hm =>
    have hr := (exitMove_exchange hm).2
    simp only [exchangeReady, Bool.and_eq_true, Option.isNone_iff_eq_none] at hr
    simpa [hr.1.1.2] using h.waits hr.1.1.1
  | withdraw hm => exact absurd (exitMove_withdraw hm).1 hx
  | yield _ _ _ hy => exact absurd hy hx
  | unparked e rest _ _ _ => exact (pop _).enterState (by simp)
  | rampOver hs _ _ => exact absurd hs h.state
  | released _ _ _ => exact h.released
  | reheldAtOnce _ _ _ _ => exact h.released.rehold
  | reheld _ _ => exact (pop _).rehold
  | aborted w _ _ =>
    refine OutOfExchange.enterState ?_ (by simp)
    exact ⟨h.phase, h.state, h.timer, h.waits⟩
  | abortedByPeer _ _ =>
    refine OutOfExchange.enterState ?_ (by simp)
    exact ⟨h.phase, h.state, h.timer, h.waits⟩

theorem OutOfExchange.minor {s t : State} (h : OutOfExchange s) (m : Minor s t) : OutOfExchange t := by
  obtain ⟨h1, h2, h3, h4⟩ := h
  cases m with
  | tendHandoff =>
    refine ⟨?_, h2, h3, fun hr => ?_⟩
    · simp only [tendHandoff]
      split
      · simp
      · exact h1
    · have hr : handoffReason s = true := hr
      simp only [tendHandoff, hr, if_true]
      exact h4 hr
  | deferAsk =>
    unfold deferAsk
    split
    · exact ⟨by simp, h2, h3, h4⟩
    · exact ⟨h1, h2, h3, h4⟩
  | testUnpark => unfold testUnpark; dsimp only; (repeat' split) <;> exact ⟨h1, h2, h3, h4⟩
  | succeed hx _ => exact absurd ((exchanging_iff s).1 hx).2 h1
  | _ => exact ⟨h1, h2, h3, h4⟩

theorem kept_outOfExchange : Kept OutOfExchange where
  nearly := fun s t h q =>
    { phase := by rw [show t.hoe.phase = s.hoe.phase from congrArg (fun x => x.hoe.phase) q.standing]; exact h.phase
      state := by rw [state_of_standing q.standing]; exact h.state
      timer := (congrArg (fun x => x.hoe.attemptTimer) q.standing).trans h.timer
      waits := fun hr => by
        rw [show t.hoe.retryWait = s.hoe.retryWait from congrArg (fun x => x.hoe.retryWait) q.standing]
        exact h.waits (by rwa [handoffReason_of_steady q.steady] at hr) }
  followLift := fun _ => OutOfExchange.followLift
  hop := fun _ _ => OutOfExchange.hop
  minor := fun _ _ => OutOfExchange.minor

/-! ### The attempts -/

/-- A leaver whose exchange ends is out of it. -/
theorem OutOfExchange.of_cancel {s : State} (hw : s.hoe.retryWait.isSome = true) : OutOfExchange (cancelExchange .idle s) := by
  have h1 (u : State) (hp : u.hoe.phase = .idle) (ht : u.hoe.attemptTimer = none) (hw : u.hoe.retryWait.isSome = true)
      (o : HoldState) : OutOfExchange (Machine.enterState o.toState u) := by
    have ho : o.toState ≠ .leaving := by cases o <;> simp [HoldState.toState]
    refine ⟨?_, ho, Hoe.attemptTimer_enter ht _, fun _ => ?_⟩
    · show (u.hoe.enter o.toState).phase ≠ .exchange
      rw [Hoe.phase_enter, hp]
      cases o <;> simp [HoldState.toState]
    · show ((u.hoe.enter o.toState).retryWait).isSome = true
      rw [Hoe.retryWait_enter]
      exact hw
  have h2 := h1 (placeHandoff (.cancel s.hoe.toggle) { s with hoe := s.hoe.endExchange .idle }) rfl rfl hw
    (s.stc.origin.getD .holding)
  unfold cancelExchange returnToOrigin
  dsimp only
  split
  · exact h2.enterState (by simp)
  · exact h2

theorem exec_attemptTimerExpiry {s : State} (hx : exchanging s = true) (h : s.hoe.attemptTimer.isSome = true) :
    exec .attemptTimerExpiry s = .next (settle (nextAttempt s)) :=
  congrArg Host.Outcome.next (if_pos (Bool.and_eq_true_iff.2 ⟨hx, h⟩))

/-! ### The retry wait -/

theorem exec_retryWaitExpiry {s : State} (h : s.hoe.retryWait.isSome = true) :
    exec .retryWaitExpiry s = .next (settle (askExits { s with hoe := { s.hoe with retryWait := none } })) :=
  congrArg Host.Outcome.next (if_pos h)

/-- No transition starts a retry wait, but for the failure of an exchange, which is a command's. -/
theorem retryWait_hop {s t : State} (r : Hop s t) : t.hoe.retryWait = s.hoe.retryWait := by
  have enter (u : State) (x : StationState) : (enterState x u).hoe.retryWait = u.hoe.retryWait := Hoe.retryWait_enter _ _
  have follow (u : State) : (followLift u).hoe.retryWait = u.hoe.retryWait := by rw [(followLift_fit u).2.2]
  have rehold (u : State) : (rehold u).hoe.retryWait = u.hoe.retryWait := by
    unfold Machine.rehold
    dsimp only
    split
    · rfl
    · exact enter _ _
  have back (u : State) : (returnToOrigin u).hoe.retryWait = u.hoe.retryWait := by
    unfold returnToOrigin
    dsimp only
    split
    · rw [enter, enter]
    · exact enter _ _
  have cause (u : State) (c : AlarmCause) : (takeAlarmCause c u).hoe.retryWait = u.hoe.retryWait := by
    unfold takeAlarmCause
    split
    · exact enter _ _
    · rfl
  have free : (released s).hoe.retryWait = s.hoe.retryWait := (follow _).trans (enter s .free)
  cases r with
  | goto x _ => exact enter s x
  | peerShows n _ => exact cause _ _
  | peerAlarm n rest _ _ => exact cause _ _
  | rollaway c rest _ ha =>
    rw [takeRollaway, if_pos ha]
    exact enter _ _
  | exchange _ => exact enter _ _
  | withdraw _ => exact back _
  | yield _ _ _ _ => exact back _
  | unparked e rest _ _ _ => exact enter _ _
  | rampOver _ _ _ =>
    unfold Machine.rampOver
    dsimp only
    split <;> exact enter _ _
  | released _ _ _ => exact free
  | reheldAtOnce _ _ _ _ => exact (rehold _).trans free
  | reheld _ _ => exact rehold _
  | aborted w _ _ => exact enter _ _
  | abortedByPeer _ _ => exact enter _ _

/-- A retry wait that is over stays so while an event settles. -/
theorem kept_retryWait : Kept (fun s => s.hoe.retryWait = none) where
  nearly := fun _ _ h q => (congrArg (fun x => x.hoe.retryWait) q.standing).trans h
  followLift := fun s h => by rw [(followLift_fit s).2.2]; exact h
  hop := fun _ _ h r => (retryWait_hop r).trans h
  minor := fun s t h m => by
    cases m with
    | tendHandoff =>
      show (if handoffReason s = true then s.hoe.retryWait else none) = none
      rw [h, ite_self]
    | deferAsk => unfold deferAsk; split <;> exact h
    | testUnpark => unfold testUnpark; dsimp only; (repeat' split) <;> exact h
    | _ => exact h

/-- A hold with a reason that may ask the peers begins an exchange (R14, R105). -/
theorem exitMove_asks {s : State} (hu : Undisturbed s) (hs : s.stc.state = .holding ∨ s.stc.state = .secured)
    (hr : exchangeReady s = true) : exitMove s = some .exchange := by
  rw [hu.exitMove]
  rcases hs with hs | hs <;> simp [stateExit, hs, hr]

theorem phase_of_resting {s t : State} (h : resting t = resting s) (hp : s.hoe.phase = .exchange) :
    t.hoe.phase = .exchange := by
  have h1 : (if t.hoe.phase = .deferred then LeaverPhase.idle else t.hoe.phase)
      = if s.hoe.phase = .deferred then .idle else s.hoe.phase := congrArg (fun x => x.hoe.phase) h
  rw [hp] at h1
  split at h1
  · cases h1
  · exact h1

/-- A station that begins an exchange asks: it stays in LEAVING while nothing is answered. -/
theorem stays_startExchange {s : State} (hr : handoffReason s = true) : Stays (startExchange s) := by
  have ht : steady (startExchange s) = steady s := steady_startExchange s
  refine .asking rfl rfl ?_ rfl
  have hl : (startExchange s).stc.leaveReason = some (if s.suc.inhibit then .inhibit else .lift) := rfl
  unfold leaveReasonCeased
  rw [hl, suc_of_steady ht, show ownLiftBit (startExchange s) = ownLiftBit s from rfl]
  cases hi : s.suc.inhibit with
  | true => simp
  | false =>
    simp only [handoffReason, hi, Bool.or_false, liftAsked, Bool.and_eq_true] at hr
    simp [hr.1]

theorem undisturbed_startExchange {s : State} (h : Undisturbed s) (hy : s.agenda.yields = []) : Undisturbed (startExchange s) := by
  have h0 : Undisturbed { s with hoe := s.hoe.startExchange } :=
    ⟨h.failure, h.alarms, h.ends, h.rollaways, h.peerAlarms, h.yields, h.abortEvent, h.near, h.threshold⟩
  obtain ⟨h1, h2, h3, h4, h5, h6, h7, h8, h9⟩ := h0.enterState .leaving (fun _ => hy)
  exact ⟨h1, h2, h3, h4, h5, h6, h7, h8, h9⟩

/-- A calm hold that tests its exits with a reason and nothing to wait for begins an exchange and stays in it (R105). -/
theorem settle_asks {s : State} (hu : Undisturbed s) (he : s.agenda.ends = []) (hy : s.agenda.yields = []) (hx : s.agenda.exits = true)
    (hs : s.stc.state = .holding ∨ s.stc.state = .secured) (hr : handoffReason s = true) (hw : s.hoe.retryWait = none)
    (hp : s.hoe.phase = .idle ∨ s.hoe.phase = .deferred) (hl : peerLeaving s = false) :
    Entered (startExchange (tendHandoff (atExits s))) (settle s) := by
  have q := (quietly_atExits s).toNearly
  have hu2 := (hu.nearly q).minor .tendHandoff
  have hr2 : handoffReason (atExits s) = true := (handoffReason_of_steady q.steady).trans hr
  have hl2 : peerLeaving (atExits s) = false := (anyPeer_of_steady q.steady _).trans hl
  have hready : exchangeReady (tendHandoff (atExits s)) = true := by
    have h1 : (tendHandoff (atExits s)).hoe.retryWait = none := by
      show (if handoffReason (atExits s) = true then s.hoe.retryWait else none) = none
      rw [hw, ite_self]
    have h2 : (tendHandoff (atExits s)).hoe.phase = s.hoe.phase := by
      have hasked : (decide (s.stc.state = .holding) || decide (s.stc.state = .secured)) = true := by simpa using hs
      show (if (decide (s.hoe.phase = .deferred) && !((decide (s.stc.state = .holding) || decide (s.stc.state = .secured))
        && handoffReason (atExits s))) = true then LeaverPhase.idle else s.hoe.phase) = _
      rw [hasked, hr2]
      simp
    have h3 : handoffReason (tendHandoff (atExits s)) = true := hr2
    have h4 : peerLeaving (tendHandoff (atExits s)) = false := hl2
    simpa [exchangeReady, h1, h2, h3, h4] using hp
  have hf : followLift (atExits s) = atExits s := by
    refine followLift_of_state ?_ ?_ <;> rcases hs with hs | hs <;>
      simp [show (atExits s).stc.state = s.stc.state from rfl, hs]
  have r := settle_exits hu he hy hx
  rw [testExits_some (s := atExits s) hf (exitMove_asks hu2 hs hready)] at r
  exact (stays_startExchange (s := tendHandoff (atExits s)) hr2).entered (undisturbed_startExchange hu2 hy) r

/-- Settles O49: an attempt changes nothing a report follows, a failed exchange is not begun again, and one begun anew asks. -/
theorem attemptsAndRetry : Obligations.AttemptsAndRetry := by
  refine ⟨fun s h hs hp ht => ⟨fun ha => ?_, fun ha => ?_⟩, fun s hw => ⟨?_, ?_⟩⟩
  · have hx : nextAttempt s = placeHandoff (.request s.hoe.toggle (s.stc.leaveReason.getD .lift))
        { s with hoe := { s.hoe with attempts := s.hoe.attempts + 1, attemptTimer := some attemptPeriod } } := if_pos ha
    refine ⟨_, exec_attemptTimerExpiry ((exchanging_iff s).2 ⟨hs, hp⟩) ht, ?_⟩
    obtain ⟨⟨h1, h2, h3, h4, h5⟩, h6, h7, h8, h9⟩ := h.agree
    rw [hx, settle_of_settled ?_]
    · exact ⟨⟨rfl, rfl, rfl⟩, rfl, rfl⟩
    · exact Agree.settled ⟨⟨h1, h2, h3, h4, h5⟩, h6, h7, h8, h9⟩ h.1
  · have hx : nextAttempt s = afterMove (failExchange s) := if_neg (by simp [attemptLimit]; omega)
    refine ⟨_, exec_attemptTimerExpiry ((exchanging_iff s).2 ⟨hs, hp⟩) ht, ?_⟩
    have k := kept_flag (f := .handoffFailed) rfl
    have hf : (failExchange s).stc.faults.get .handoffFailed = true := by
      refine (faults_returnToOrigin _ rfl).trans ?_
      exact FaultSet.get_put_self s.stc.faults .handoffFailed true
    have ho : OutOfExchange (failExchange s) := .of_cancel rfl
    have e := kept_outOfExchange.settle (kept_outOfExchange.afterMove ho)
    rw [hx]
    exact ⟨k.settle (k.afterMove hf), e.timer, e.phase, e.state⟩
  · exact ⟨_, exec_retryWaitExpiry hw, kept_retryWait.settle rfl⟩
  · intro h hc hs hr hl hp hj
    have hu : Undisturbed (askExits { s with hoe := { s.hoe with retryWait := none } }) := by
      obtain ⟨h1, h2, h3, h4, h5, h6, h7, h8, h9⟩ := Undisturbed.of_calm hc h.1
      exact ⟨h1, h2, h3, h4, h5, h6, h7, h8, h9⟩
    have e := settle_asks hu (congrArg Agenda.ends h.1) (congrArg Agenda.yields h.1) rfl hs hr rfl hp hl
    refine ⟨_, exec_retryWaitExpiry hw, state_of_resting e.resting, phase_of_resting e.resting rfl,
      congrArg (fun x => x.hoe.toggle) e.resting, congrArg (fun x => x.hoe.attempts) e.resting,
      congrArg (fun x => x.hoe.attemptTimer) e.resting, congrArg (fun x => x.hoe.replies) e.resting, e.join,
      congrArg (fun x => x.stc.leaveReason) e.resting, (congrArg (fun x => x.stc.origin) e.resting).trans ?_⟩
    show some (if s.stc.state = .secured then HoldState.secured else .holding) = _
    rfl

end Sys2Proof.Machine
end

section
/-! PROOFS. The CLEAR of a flag (O58): no report overruns MOD's queue where the join is as the state asks. -/

namespace Sys2Proof.Machine

set_option Elab.async false

/-! ### What overruns the queue -/

/-- A join change raises no flag (R74). -/
theorem stc_joinTo (j : Join) (s : State) : (joinTo j s).stc = s.stc := by
  unfold joinTo
  rw [takeModResult_superseded _ _ (Mod.joinTo_ended j s.mod).1, (Mod.joinTo_ended j s.mod).2]
  rfl

/-- It empties the queue (R74). -/
theorem queue_joinTo {j : Join} {s : State} (h : s.mod.join ≠ j) : (joinTo j s).mod.queue = [] := by
  rw [show (joinTo j s).mod = _ from takeModResult_mod _ _, Mod.joinTo, if_neg (fun e => h e.symm)]
  rfl

/-- An append to an empty queue overruns nothing where it is short enough (R75). -/
theorem stc_appendSteps {x : Source} {l : List Step} {s : State} (hq : s.mod.queue = []) (hl : l.length ≤ queueLimit) :
    (appendSteps x l s).stc = s.stc := by
  have ho : (s.mod.append s.hpl.pTop x l).overrun = false := by
    have behind (sts : List Step) (h : sts.length ≤ queueLimit) : (s.mod.placeBehind sts).overrun = false := by
      unfold Mod.placeBehind
      rw [if_pos (by simpa [hq] using h)]
    unfold Mod.append
    split
    · split
      · unfold Mod.placePlanner
        split
        · rfl
        · split <;> rfl
      · exact behind _ (by simpa using hl)
    · rfl
  unfold appendSteps
  rw [takeModResult_superseded _ _ (fun e he => Mod.append_ended _ _ _ _ e he), ho]
  rfl

/-- A transition leaves MOD to the outputs. -/
theorem mod_hop {s t : State} (r : Hop s t) : t.mod = s.mod := by
  have follow (u : State) : (followLift u).mod = u.mod := (followLift_fit u).2.1
  have rehold (u : State) : (rehold u).mod = u.mod := by
    unfold Machine.rehold
    dsimp only
    split <;> rfl
  have back (u : State) : (returnToOrigin u).mod = u.mod := by
    unfold returnToOrigin
    dsimp only
    split <;> rfl
  have cause (u : State) (c : AlarmCause) : (takeAlarmCause c u).mod = u.mod := by
    unfold takeAlarmCause
    split <;> rfl
  have free : (released s).mod = s.mod := follow _
  cases r with
  | peerShows n _ => exact cause _ _
  | peerAlarm n rest _ _ => exact cause _ _
  | rollaway c rest _ ha => rw [takeRollaway, if_pos ha]; rfl
  | withdraw _ => exact back _
  | yield _ _ _ _ => exact back _
  | rampOver _ _ _ =>
    unfold Machine.rampOver
    dsimp only
    split <;> rfl
  | released _ _ _ => exact free
  | reheldAtOnce _ _ _ _ => exact (rehold _).trans free
  | reheld _ _ => exact rehold _
  | _ => rfl

theorem mod_hops {s t : State} (r : Hops s t) : t.mod = s.mod := by
  induction r with
  | refl => rfl
  | tail _ r ih =>
    rcases r with r | rfl
    · exact (mod_hop r).trans ih
    · exact (followLift_fit _).2.1.trans ih

theorem turn_followLift (s : State) : (followLift s).agenda.turn = s.agenda.turn := by
  unfold followLift
  split <;> rfl

/-- No transition calls for a turn: RELEASING is entered by its timer alone. -/
theorem turn_hop {s t : State} (r : Hop s t) : t.agenda.turn = s.agenda.turn := by
  have enter (u : State) {x : StationState} (hx : x ≠ .releasing) :
      (enterState x u).agenda.turn = u.agenda.turn := by
    show (u.agenda.turn || decide (x = .releasing)) = _
    simp [hx]
  have rehold (u : State) : (rehold u).agenda.turn = u.agenda.turn := by
    unfold Machine.rehold
    dsimp only
    split
    · rfl
    · exact enter _ (by simp)
  have back (u : State) : (returnToOrigin u).agenda.turn = u.agenda.turn := by
    have ho : (u.stc.origin.getD .holding).toState ≠ .releasing := by
      cases u.stc.origin.getD .holding <;> simp [HoldState.toState]
    unfold returnToOrigin
    dsimp only
    split
    · exact (enter _ (by simp)).trans (enter _ ho)
    · exact enter _ ho
  have cause (u : State) (c : AlarmCause) : (takeAlarmCause c u).agenda.turn = u.agenda.turn := by
    unfold takeAlarmCause
    split
    · exact enter _ (by simp)
    · rfl
  have free : (released s).agenda.turn = s.agenda.turn := (turn_followLift _).trans (enter s (x := .free) (by simp))
  cases r with
  | goto x hm => exact enter s (by cases exitMove_goto hm <;> simp)
  | peerShows n _ => exact cause s _
  | peerAlarm n rest _ _ => exact cause { s with agenda.peerAlarms := rest } _
  | rollaway c rest _ ha =>
    rw [takeRollaway, if_pos ha]
    exact enter (x := .alarm) _ (by simp)
  | exchange _ => exact enter (x := .leaving) s (by simp)
  | withdraw _ => exact back _
  | yield m rest _ _ => exact back _
  | unparked e rest _ _ _ => exact enter (x := .holding) _ (by simp)
  | rampOver _ _ _ =>
    unfold Machine.rampOver
    dsimp only
    split
    · exact enter (x := .service) _ (by simp)
    · exact enter (x := .free) _ (by simp)
  | released _ _ _ => exact free
  | reheldAtOnce _ _ _ _ => exact (rehold _).trans free
  | reheld _ _ =>
    rw [rehold]
  | aborted w _ _ => exact enter (x := .holding) _ (by simp)
  | abortedByPeer _ _ => exact enter (x := .holding) _ (by simp)

theorem turn_hops {s t : State} (r : Hops s t) : t.agenda.turn = s.agenda.turn := by
  induction r with
  | refl => rfl
  | tail _ r ih =>
    rcases r with r | rfl
    · exact (turn_hop r).trans ih
    · exact (turn_followLift _).trans ih

theorem faults_hops {s t : State} (r : Hops s t) {f : Flag} (hf : f.sticky = true) :
    t.stc.faults.get f = s.stc.faults.get f := by
  induction r with
  | refl => rfl
  | tail _ r ih =>
    rcases r with r | rfl
    · exact (faults_hop r hf).trans ih
    · exact (congrArg (fun x => x.get f) (faults_followLift _)).trans ih

/-- A transition out of ALARM leads to FAILED (R19, R20). -/
theorem hop_of_alarm {s t : State} (h : s.stc.state = .alarm) (r : Hop s t) : t.stc.state = .failed := by
  have hx : ¬ exchanging s = true := by simp [exchanging, h]
  cases r with
  | goto x hm =>
    cases exitMove_goto hm with
    | fails _ _ => rfl
    | startsStanding hs | startsFree hs | lifts hs | holds hs | resumes hs => simp [h] at hs
    | serves hs | stands hs | secures hs => rcases hs with hs | hs <;> simp [h] at hs
  | peerShows n hm =>
    unfold exitMove at hm
    split at hm
    · cases hm
    · simp [h, StationState.alarmable, stateExit] at hm
  | peerAlarm n rest _ ha | rollaway c rest _ ha => simp [h, StationState.alarmable] at ha
  | exchange hm => have := (exitMove_exchange hm).1; simp [h] at this
  | withdraw hm => exact absurd (exitMove_withdraw hm).1 hx
  | yield _ _ _ hy => exact absurd hy hx
  | unparked _ _ _ _ hs | rampOver hs _ _ | released hs _ _ | reheldAtOnce hs _ _ _ => simp [h] at hs
  | reheld _ hr => simp [reholds_iff, h] at hr
  | aborted _ hr _ | abortedByPeer _ hr => simp [releaseInProgress_iff, h] at hr

/-- A computation leaves MOD to its submissions (R53). -/
theorem mod_compute (s : State) : (compute s).mod = s.mod := by
  have put (f : Flag) (b : Bool) (u : State) : (putFault f b u).mod = u.mod := rfl
  have conditions (u : State) : (currentConditions u).mod = u.mod := by
    unfold currentConditions
    dsimp only
    (repeat' split) <;> rfl
  unfold compute callStatusIf
  dsimp only
  split <;> exact conditions _

/-- The outputs overrun nothing but in an ALARM that was joined before. -/
theorem overrun_outputs {s : State} (h : s.stc.state = .alarm → s.mod.join ≠ .alarm) :
    (outputs s).stc.faults.queueOverrun = s.stc.faults.queueOverrun := by
  have hp : (parkForState s).stc = s.stc ∧ (parkForState s).mod.join = s.mod.join := by
    unfold parkForState
    split
    · refine ⟨rfl, ?_⟩
      show (s.mod.orderPark _ _ _).join = _
      unfold Mod.orderPark
      (repeat' split) <;> rfl
    · exact ⟨rfl, rfl⟩
  have hj : (joinForState (parkForState s)).stc = s.stc := (stc_joinTo _ _).trans hp.1
  unfold outputs
  dsimp only
  split
  · rename_i ha
    rw [hj] at ha
    have hq : (joinForState (parkForState s)).mod.queue = [] := by
      refine queue_joinTo ?_
      rw [hp.1, hp.2, ha]
      exact h ha
    unfold alarmStep
    dsimp only
    rw [stc_appendSteps (by rw [mod_compute, sync_mod, hq]) (by simp [queueLimit])]
    exact (((quietly_sync _).trans (quietly_compute _)).noOverrun).trans (by rw [hj])
  · rw [hj]

/-! ### The invariant -/

/-- QUEUE_OVERRUN is clear, the join is as the state asks, and no turn is called for. -/
structure Uncrowded (s : State) : Prop where
  clear : s.stc.faults.queueOverrun = false
  join : JoinRight s
  turn : s.agenda.turn = false

theorem join_ne_alarm {s : State} (h : JoinRight s) (hs : s.stc.state ≠ .alarm) : s.mod.join ≠ .alarm := by
  rcases h with h | ⟨-, h⟩
  · rw [h]
    cases hst : s.stc.state with
    | alarm => exact absurd hst hs
    | leaving => unfold joinOf; dsimp only; split <;> simp
    | _ => simp [joinOf]
  · simp [h]

theorem Uncrowded.hops {s u v : State} (h : Uncrowded s) (r : Hop s u) (rs : Hops u v) :
    v.stc.faults.queueOverrun = false ∧ v.agenda.turn = false ∧ (v.stc.state = .alarm → v.mod.join ≠ .alarm) := by
  have all : Hops s v := .head (.inl r) rs
  refine ⟨(faults_hops all (f := .queueOverrun) rfl).trans h.clear, (turn_hops all).trans h.turn, fun hv => ?_⟩
  rw [mod_hops all]
  refine join_ne_alarm h.join fun hs => ?_
  cases hv.symm.trans (kept_failed.hops (hop_of_alarm hs r) rs)

/-- The release profile finds the queue empty at the success (R110, R74). -/
theorem overrun_succeed {s : State} (h : JoinRight s) (hx : exchanging s = true) :
    (succeed s).stc.faults = s.stc.faults := by
  obtain ⟨hs, hp⟩ := (exchanging_iff s).1 hx
  have hj : s.mod.join ≠ .release := by
    rcases h with h | ⟨h, -⟩
    · rw [h, hs]
      simp [joinOf, hp]
    · cases hs.symm.trans h
  unfold succeed
  dsimp only
  rw [stc_appendSteps ?_ (by simp [releaseProfile, queueLimit]), stc_joinTo]
  exact queue_joinTo hj

theorem turn_minor {s t : State} (m : Minor s t) (h : s.agenda.turn = false) : t.agenda.turn = false := by
  cases m with
  | deferAsk => unfold deferAsk; split <;> exact h
  | testUnpark => unfold testUnpark; dsimp only; (repeat' split) <;> exact h
  | turn _ _ _ => rfl
  | _ => exact h

theorem act_uncrowded {s t : State} (h : Uncrowded s) (a : Act s t) : Uncrowded t := by
  have quiet {u v : State} (n : Nearly u v) (hu : u.agenda.turn = false) : v.agenda.turn = false :=
    Bool.eq_false_iff.2 fun hv => Bool.false_ne_true (hu.symm.trans (n.calls.turn hv))
  refine ⟨?_, act_joinRight h.join a, ?_⟩
  · cases a with
    | quiet q => exact q.noOverrun.trans h.clear
    | followLift => rw [faults_followLift, h.clear]
    | minor m hr => rw [faults_minor m, h.clear]
    | ventService _ => rw [stc_joinTo, h.clear]
    | turn ha => cases h.turn.symm.trans ha
    | succeed hx hs => rw [overrun_succeed h.join hx, h.clear]
    | moved r rs =>
      obtain ⟨hc, -, hj⟩ := h.hops r rs
      exact (overrun_outputs hj).trans hc
  · cases a with
    | quiet q => exact quiet q.toNearly h.turn
    | followLift => exact (turn_followLift s).trans h.turn
    | minor m hr => exact turn_minor m h.turn
    | ventService _ => exact quiet (nearly_joinTo _ _) h.turn
    | turn ha => cases h.turn.symm.trans ha
    | succeed hx hs => exact quiet ((nearly_joinTo _ _).trans (nearly_appendSteps _ _ _)) h.turn
    | moved r rs => exact quiet (nearly_outputs _) (h.hops r rs).2.1

/-! ### A CLEAR and its answer -/

/-- The frame of a request has been heard. -/
def withHeard (s : State) : State := { s with lnk := s.lnk.heard }

/-- A CLEAR of a flag has been tried on STC (R22). -/
def tryClear (f : Flag) (s : State) : State := if s.stc.faults.get f then clearFlag f s else s

theorem exec_diagClear {q : DiagRequest} {s : State} (h : Asked q s) :
    exec (.diagClear q) s = .next (clearItem q (withHeard s)) := by
  obtain ⟨hl, ho, ht⟩ := h
  have hown : q.origin.val ≠ (own s).val := by have := (own s).isLt; omega
  have hd : 14 ≤ q.origin.val && decide (q.target.toNat = (own (withHeard s)).val) :=
    Bool.and_eq_true_iff.2 ⟨decide_eq_true ho, decide_eq_true ht⟩
  show Host.Outcome.next (diagDeliver q (clearItem q) s) = _
  rw [diagDeliver, receiveFrom, if_pos hl]
  dsimp only
  rw [if_neg hown]
  exact congrArg _ (if_pos hd)

theorem clearItem_flag {q : DiagRequest} {f : Flag} (s : State) (hq : 24 ≤ q.item.toNat)
    (hf : allFlags[q.item.toNat - 24]? = some f) :
    clearItem q s
      = settle (answer q (clearResult f s) none (some (mark ((tryClear f s).stc.faults.get f))) (tryClear f s)) := by
  unfold clearItem
  rw [if_pos hq, hf]
  rfl

/-- The flag after a CLEAR stands where it stood and its condition is present. -/
theorem tryClear_get (f : Flag) (s : State) :
    (tryClear f s).stc.faults.get f = (s.stc.faults.get f && clearBlocked s f) := by
  unfold tryClear clearFlag
  cases hg : s.stc.faults.get f with
  | false => simp [hg]
  | true =>
    cases hb : clearBlocked s f with
    | false => simp
    | true => simp [hg]

/-- A CLEAR of a clear flag or of a blocked one does nothing. -/
theorem tryClear_of_kept {f : Flag} {s : State} (h : s.stc.faults.get f = false ∨ clearBlocked s f = true) :
    tryClear f s = s := by
  unfold tryClear clearFlag
  rcases h with h | h <;> simp [h]

theorem result_clearItem {q : DiagRequest} {f : Flag} (s : State) (hq : 24 ≤ q.item.toNat)
    (hf : allFlags[q.item.toNat - 24]? = some f) :
    (clearItem q s).lnk.diagSlot.map DiagAnswer.result = some (clearResult f s) := by
  rw [clearItem_flag s hq hf, settle_diagSlot]
  rfl

theorem body_clearItem {q : DiagRequest} {f : Flag} (s : State) (hq : 24 ≤ q.item.toNat)
    (hf : allFlags[q.item.toNat - 24]? = some f) :
    (clearItem q s).lnk.diagSlot.map DiagAnswer.body
      = some (valueBytes (mark (s.stc.faults.get f && clearBlocked s f))) := by
  rw [clearItem_flag s hq hf, settle_diagSlot, ← tryClear_get]
  rfl

/-- A CLEAR that does nothing leaves a settled STC as it is. -/
theorem stc_clearItem {q : DiagRequest} {f : Flag} {s : State} (h : Settled s) (hq : 24 ≤ q.item.toNat)
    (hf : allFlags[q.item.toNat - 24]? = some f) (hk : s.stc.faults.get f = false ∨ clearBlocked s f = true) :
    (clearItem q s).stc = s.stc := by
  rw [clearItem_flag s hq hf, tryClear_of_kept hk, settle_of_settled (settled_answer h)]
  rfl

theorem valueBytes_mark (b : Bool) : valueBytes (mark b) = [0, 0, 0, if b then 1 else 0] := by cases b <;> rfl

/-- A cleared flag stays clear through the reports of its CLEAR (R22). -/
theorem cleared_clearItem {q : DiagRequest} {f : Flag} {s : State} (hs : Settled s) (hj : f = .queueOverrun → JoinRight s)
    (hq : 24 ≤ q.item.toNat) (hf : allFlags[q.item.toNat - 24]? = some f) (hst : f.sticky = true)
    (hk : (s.stc.faults.get f && clearBlocked s f) = false) : (clearItem q s).stc.faults.get f = false := by
  have clear : (tryClear f s).stc.faults.get f = false := (tryClear_get f s).trans hk
  rw [clearItem_flag s hq hf]
  by_cases ho : f = .queueOverrun
  · subst ho
    have right : JoinRight s := hj rfl
    have start : Uncrowded (tryClear .queueOverrun s) := by
      refine ⟨clear, ?_, ?_⟩
      · unfold tryClear clearFlag
        (repeat' split) <;> exact right
      · unfold tryClear clearFlag
        (repeat' split) <;> exact congrArg Agenda.turn hs.1
    exact (settle_of_acts (fun _ _ => act_uncrowded) (P := Uncrowded)
      (s := answer q _ none (some _) (tryClear .queueOverrun s)) ⟨start.clear, start.join, start.turn⟩).clear
  · exact (kept_flag_eq hst ho false).settle clear

/-- Settles O58: the flag after a CLEAR, and the reports that follow, which raise no sticky flag. -/
theorem clearAnswers : Obligations.ClearAnswers := by
  intro q s asked
  have settled (h : Settled s) : Settled (withHeard s) := h.aside rfl
  refine ⟨fun f hq hf hst => ⟨fun hset hb => ?_, fun hk => ?_⟩, fun f hq hf hst hs => ?_, fun hq => ?_⟩
  · have both : ((withHeard s).stc.faults.get f && clearBlocked (withHeard s) f) = true :=
      Bool.and_eq_true_iff.2 ⟨hset, hb⟩
    refine ⟨_, exec_diagClear asked, ?_, ?_, ?_⟩
    · show (clearItem q (withHeard s)).stc.faults.get f = true
      rw [clearItem_flag _ hq hf]
      exact (kept_flag hst).settle ((tryClear_get f _).trans both)
    · rw [result_clearItem _ hq hf, clearResult, if_pos both]
    · rw [body_clearItem _ hq hf, both, valueBytes_mark]
      rfl
  · have both : ((withHeard s).stc.faults.get f && clearBlocked (withHeard s) f) = false :=
      Bool.and_eq_false_iff.2 hk
    refine ⟨_, exec_diagClear asked, ?_, ?_, fun hs hj => ?_, fun hg hs => ?_⟩
    · rw [result_clearItem _ hq hf, clearResult, if_neg (Bool.eq_false_iff.1 both)]
    · rw [body_clearItem _ hq hf, both, valueBytes_mark]
      rfl
    · exact cleared_clearItem (settled hs) hj hq hf hst both
    · exact stc_clearItem (settled hs) hq hf (.inl hg)
  · have blocked : clearBlocked (withHeard s) f = s.stc.faults.get f := by
      cases f with
      | shortfall | springShortfall => rfl
      | _ => cases hst
    have keeps : (withHeard s).stc.faults.get f = false ∨ clearBlocked (withHeard s) f = true := by
      rw [blocked]
      exact (Bool.eq_false_or_eq_true _).symm
    refine ⟨_, exec_diagClear asked, stc_clearItem (settled hs) hq hf keeps, ?_⟩
    rw [result_clearItem _ hq hf, clearResult, blocked]
    show some (if (s.stc.faults.get f && s.stc.faults.get f) = true then _ else _) = _
    rw [Bool.and_self]
    rfl
  · have turned : clearItem q (withHeard s) = turnAway q (withHeard s) := by
      unfold clearItem
      rcases hq with hq | hq
      · rw [if_neg (by omega)]
      · rw [if_pos (by omega), List.getElem?_eq_none (by show 16 ≤ _; omega)]
    exact ⟨_, exec_diagClear asked, by rw [turned]; rfl, by rw [turned]; rfl⟩

end Sys2Proof.Machine
end

section
/-! PROOFS. A wheel pulse (O32): the counts, and what a rolling wheel shuts out. -/

namespace Sys2Proof.Machine

set_option Elab.async false

/-! ### A moving wheel -/

/-- An event settles as it does from its state brought up to date (R42). -/
theorem settle_sync (s : State) : settle (sync s) = settle s := by
  have hd : drain reportLimit (sync s) = drain reportLimit s := by
    show drain (63 + 1) (sync s) = drain (63 + 1) s
    rw [drain, drain, sync_idem]
  rw [settle, settle, hd]

/-- No vehicle is stationary with the own standstill flag clear (R36). -/
theorem stationary_sync {s : State} (h : s.crm.standstill = false) : (sync s).ptb.vehicleStationary = false := by
  have hf : (ownEntry (refreshValidity s)).flags.standstill = false := h
  have hr : rawStationary (own s) (s.ptb.entries.set (own s) (ownEntry (refreshValidity s))) = false := by
    rw [rawStationary, Table.get_set_self, hf, Bool.false_and]
  show (s.ptb.vehicleStationary && rawStationary (own s) (s.ptb.entries.set (own s) (ownEntry (refreshValidity s)))) = false
  rw [hr, Bool.and_false]

/-- The wheel counts and what is formed from them. -/
def counts (s : State) : Int × Int × Int × Int := (s.crm.left, s.crm.right, s.crm.axle, s.crm.d)

/-- The vehicle is not stationary and the station does not stand, so nothing zeroes the counts (R94). -/
structure Moving (c : Int × Int × Int × Int) (s : State) : Prop where
  stationary : s.ptb.vehicleStationary = false
  state : s.stc.state ≠ .standstill
  counts : counts s = c

section

variable {c : Int × Int × Int × Int} {s : State} (h : Moving c s)

include h

theorem Moving.enterState {t : StationState} (ht : t ≠ .standstill) : Moving c (enterState t s) := by
  have hn : isHoldEntry s.stc.state t = false := by simp [isHoldEntry, h.state]
  obtain ⟨-, h1, h2, h3, h4⟩ := counts_enterState hn
  refine ⟨h.stationary, ht, ?_⟩
  rw [Machine.counts, h1, h2, h3, h4]
  exact h.counts

theorem Moving.followLift : Moving c (followLift s) := by
  unfold Machine.followLift
  split
  · exact ⟨h.stationary, h.state, h.counts⟩
  · exact h

theorem Moving.takeAlarmCause (a : AlarmCause) : Moving c (takeAlarmCause a s) := by
  obtain ⟨h1, h2, h3⟩ := h
  unfold Machine.takeAlarmCause
  split
  · refine Moving.enterState (t := .alarm) ?_ (by simp)
    exact ⟨h1, h2, h3⟩
  · exact ⟨h1, h2, h3⟩

theorem Moving.returnToOrigin : Moving c (returnToOrigin s) := by
  have ho : (s.stc.origin.getD .holding).toState ≠ .standstill := by
    cases s.stc.origin.getD .holding <;> simp [HoldState.toState]
  have h1 := h.enterState ho
  unfold Machine.returnToOrigin
  dsimp only
  split
  · exact h1.enterState (by simp)
  · exact h1

theorem Moving.rehold : Moving c (rehold s) := by
  have h1 : Moving c { s with rsq := s.rsq.closeWindow } := ⟨h.stationary, h.state, h.counts⟩
  unfold Machine.rehold
  dsimp only
  split
  · exact h1
  · exact h1.enterState (by simp)

theorem Moving.released : Moving c (released s) := by
  obtain ⟨h1, h2, h3⟩ := h.enterState (t := .free) (by simp)
  exact Moving.followLift ⟨h1, h2, h3⟩

theorem Moving.rampOver : Moving c (rampOver s) := by
  have h0 : Moving c { s with hoe := { s.hoe with phase := .idle, replies := Table.fill none } } :=
    ⟨h.stationary, h.state, h.counts⟩
  unfold Machine.rampOver
  dsimp only
  split
  · exact h0.enterState (by simp)
  · obtain ⟨h1, h2, h3⟩ := h0.enterState (t := .free) (by simp)
    exact ⟨h1, h2, h3⟩

theorem Moving.hop {t : State} (r : Hop s t) : Moving c t := by
  obtain ⟨h1, h2, h3⟩ := h
  cases r with
  | goto x hm =>
    refine Moving.enterState ⟨h1, h2, h3⟩ ?_
    cases exitMove_goto hm with
    | startsStanding _ _ hv => simp [h1] at hv
    | stands _ _ ha => simp [standstillAllowed, h1] at ha
    | _ => simp
  | peerShows n _ => exact Moving.takeAlarmCause ⟨h1, h2, h3⟩ _
  | peerAlarm n rest _ _ => exact Moving.takeAlarmCause (s := { s with agenda := { s.agenda with peerAlarms := rest } }) ⟨h1, h2, h3⟩ _
  | rollaway r rest _ ha =>
    rw [takeRollaway, if_pos ha]
    refine Moving.enterState (t := .alarm) ?_ (by simp)
    exact ⟨h1, h2, h3⟩
  | exchange _ =>
    obtain ⟨k1, k2, k3⟩ := Moving.enterState (s := { s with hoe := s.hoe.startExchange }) ⟨h1, h2, h3⟩ (t := .leaving) (by simp)
    exact ⟨k1, k2, k3⟩
  | withdraw _ | yield _ _ _ _ => exact Moving.returnToOrigin ⟨h1, h2, h3⟩
  | unparked e rest _ _ _ =>
    refine Moving.enterState (t := .holding) ?_ (by simp)
    exact ⟨h1, h2, h3⟩
  | rampOver _ _ _ => exact Moving.rampOver ⟨h1, h2, h3⟩
  | released _ _ _ => exact Moving.released ⟨h1, h2, h3⟩
  | reheldAtOnce _ _ _ _ => exact (Moving.released ⟨h1, h2, h3⟩).rehold
  | reheld _ _ => exact Moving.rehold (s := { s with agenda := { s.agenda with abortEvent := false } }) ⟨h1, h2, h3⟩
  | aborted w _ _ | abortedByPeer _ _ =>
    refine Moving.enterState (t := .holding) ?_ (by simp)
    exact ⟨h1, h2, h3⟩

end

/-- The marks of an event leave the axle and the table alone. -/
theorem crm_minor {s t : State} (m : Minor s t) : t.crm = s.crm := by
  cases m with
  | deferAsk => unfold deferAsk; split <;> rfl
  | testUnpark => unfold testUnpark; dsimp only; (repeat' split) <;> rfl
  | _ => rfl

theorem ptb_minor {s t : State} (m : Minor s t) : t.ptb = s.ptb := by
  cases m with
  | deferAsk => unfold deferAsk; split <;> rfl
  | testUnpark => unfold testUnpark; dsimp only; (repeat' split) <;> rfl
  | _ => rfl

/-- Vehicle-stationary does not come back within an event (R36). -/
theorem moving_of_nearly {s t : State} (h : s.ptb.vehicleStationary = false) (q : Nearly s t) :
    t.ptb.vehicleStationary = false := by
  have := mt q.stationary
  simpa [h] using this

theorem kept_moving (c : Int × Int × Int × Int) : Kept (Moving c) where
  nearly := fun s t h q =>
    { stationary := moving_of_nearly h.stationary q
      state := by rw [state_of_standing q.standing]; exact h.state
      counts := (congrArg (fun x => (x.crm.left, x.crm.right, x.crm.axle, x.crm.d)) q.standing).trans h.counts }
  followLift := fun _ h => h.followLift
  hop := fun _ _ h r => h.hop r
  minor := fun s t h m =>
    { stationary := by rw [ptb_minor m]; exact h.stationary
      state := by rw [state_minor m]; exact h.state
      counts := by rw [counts, crm_minor m]; exact h.counts }

/-! ### A FREE station that rolls stays FREE -/

/-- A station in state `x` that moves and that nothing disturbs. -/
structure Rolls (x : StationState) (s : State) : Prop where
  state : s.stc.state = x
  stationary : s.ptb.vehicleStationary = false
  inhibit : s.suc.inhibit = false
  failure : failureRaised s = false
  alarms : unacknowledgedAlarms s = []
  rollaways : s.agenda.rollaways = []
  peerAlarms : s.agenda.peerAlarms = []
  abortEvent : s.agenda.abortEvent = false
  watch : s.crm.watch = false

theorem Rolls.followLift {x : StationState} {s : State} (h : Rolls x s) : Rolls x (followLift s) := by
  obtain ⟨h1, h2, h3, h4, h5, h6, h7, h8, h9⟩ := h
  unfold Machine.followLift
  split <;> exact ⟨h1, h2, h3, h4, h5, h6, h7, h8, h9⟩

theorem Rolls.minor {x : StationState} {s t : State} (h : Rolls x s) (m : Minor s t) : Rolls x t := by
  obtain ⟨h1, h2, h3, h4, h5, h6, h7, h8, h9⟩ := h
  cases m with
  | deferAsk => unfold deferAsk; split <;> exact ⟨h1, h2, h3, h4, h5, h6, h7, h8, h9⟩
  | testUnpark => unfold testUnpark; dsimp only; (repeat' split) <;> exact ⟨h1, h2, h3, h4, h5, h6, h7, h8, h9⟩
  | _ => exact ⟨h1, h2, h3, h4, h5, h6, h7, h8, h9⟩

theorem Rolls.free {x : StationState} {s : State} (h : Rolls x s) : Rolls .free (enterState .free s) := by
  obtain ⟨h1, h2, h3, h4, h5, h6, h7, h8, h9⟩ := h
  refine ⟨rfl, h2, h3, ?_, h5, h6, h7, h8, ?_⟩
  · have k1 := faults_enterState .free s (f := .pressureSensor) rfl
    have k2 := faults_enterState .free s (f := .valveDriver) rfl
    simp only [FaultSet.get] at k1 k2
    unfold failureRaised at *
    rw [k1, k2, h4]
  · show (s.crm.enter .free _ s.glu.accAverage).watch = false
    rw [Crm.watch_enter]
    rfl

theorem Rolls.no_hop {s t : State} (h : Rolls .free s) : ¬ Hop s t := by
  have no (x : StationState) (hx : x ≠ .free) : s.stc.state ≠ x := fun e => hx (e.symm.trans h.state)
  have hx : ¬ exchanging s = true := fun hx => no .leaving (by simp) ((exchanging_iff s).1 hx).1
  intro r
  cases r with
  | goto x hm =>
    cases exitMove_goto hm with
    | fails hf _ => simp [h.failure] at hf
    | serves _ hi => simp [h.inhibit] at hi
    | stands _ _ ha => simp [standstillAllowed, h.stationary] at ha
    | startsStanding hs | startsFree hs | lifts hs | holds hs | resumes hs => exact no _ (by simp) hs
    | secures hs _ => rcases hs with hs | hs <;> exact no _ (by simp) hs
  | peerShows n hm => exact exitMove_peerAlarm hm h.alarms
  | peerAlarm n rest hp _ => simp [h.peerAlarms] at hp
  | rollaway r rest hp _ => simp [h.rollaways] at hp
  | exchange hm => rcases (exitMove_exchange hm).1 with hs | hs <;> exact no _ (by simp) hs
  | withdraw hm => exact hx (exitMove_withdraw hm).1
  | yield _ _ _ hy => exact hx hy
  | unparked _ _ _ _ hs | rampOver hs _ _ | released hs _ _ | reheldAtOnce hs _ _ _ => exact no _ (by simp) hs
  | reheld ha _ => simp [h.abortEvent] at ha
  | aborted _ hr _ | abortedByPeer _ hr => exact no _ (by simp) ((releaseInProgress_iff s).1 hr).1

theorem kept_rolls : Kept (Rolls .free) where
  nearly := fun s t h q =>
    { state := (state_of_standing q.standing).trans h.state
      stationary := moving_of_nearly h.stationary q
      inhibit := (inhibit_of_steady q.steady).trans h.inhibit
      failure := (failureRaised_of_nearly q).trans h.failure
      alarms := q.alarms.trans h.alarms
      rollaways := List.eq_nil_iff_forall_not_mem.2 (fun r hr => by
        rcases q.calls.rollaways r hr with hr | ⟨hw, -⟩
        · simp [h.rollaways] at hr
        · simp [h.watch] at hw)
      peerAlarms := List.eq_nil_iff_forall_not_mem.2 (fun n hn => by simpa [h.peerAlarms] using q.calls.peerAlarms n hn)
      abortEvent := Bool.eq_false_iff.2 fun he => Bool.false_ne_true (h.abortEvent.symm.trans (q.calls.abortEvent he))
      watch := (watch_of_standing q.standing).trans h.watch }
  followLift := fun _ h => h.followLift
  hop := fun _ _ h r => absurd r h.no_hop
  minor := fun _ _ h m => h.minor m

/-! ### Creep events under the watch -/

/-- The station moves under its watch, or has left it for a state that begins none; no abort of a release counts an event. -/
structure Watched (e : Nat) (b d : Int) (s : State) : Prop where
  stationary : s.ptb.vehicleStationary = false
  abortEvent : s.agenda.abortEvent = false
  state : (s.crm.watch = true ∧ s.stc.state.monitored = true)
    ∨ s.stc.state = .free ∨ s.stc.state = .service ∨ s.stc.state = .alarm ∨ s.stc.state = .failed
  events : s.crm.eOwn = e
  rebase : s.crm.rebase = b
  distance : s.crm.d = d

/-- An entry that is no hold entry moves the rebase only where it begins a watch (R93). -/
theorem Crm.rebase_enter {t : StationState} (a : Option Int) {c : Crm} (h : t.monitored = true → c.watch = true) :
    (c.enter t false a).rebase = c.rebase := by
  unfold Crm.enter
  simp only [Bool.false_eq_true, if_false]
  split
  · rw [if_pos (h ‹_›)]
  · split <;> rfl

section

variable {e : Nat} {b d : Int} {s : State} (h : Watched e b d s)

include h

theorem Watched.ne {x : StationState} (hm : x.monitored = false) (h1 : x ≠ .free) (h2 : x ≠ .service) (h3 : x ≠ .alarm)
    (h4 : x ≠ .failed) : s.stc.state ≠ x := by
  rintro rfl
  rcases h.state with ⟨-, h⟩ | h | h | h | h
  · cases hm.symm.trans h
  exacts [h1 h, h2 h, h3 h, h4 h]

theorem Watched.enterState {t : StationState}
    (ht : (t.monitored = true ∧ s.stc.state.monitored = true) ∨ t = .free ∨ t = .service ∨ t = .alarm ∨ t = .failed) :
    Watched e b d (enterState t s) := by
  have hn : isHoldEntry s.stc.state t = false := by
    have : s.stc.state ≠ .standstill := h.ne rfl (by simp) (by simp) (by simp) (by simp)
    simp [isHoldEntry, this]
  have hw : t.monitored = true → s.crm.watch = true := by
    intro hm
    have hs : s.stc.state.monitored = true := by
      rcases ht with ⟨-, hs⟩ | rfl | rfl | rfl | rfl
      · exact hs
      all_goals cases hm
    rcases h.state with ⟨hw, -⟩ | h | h | h | h
    · exact hw
    all_goals rw [h] at hs; cases hs
  obtain ⟨h1, -, -, -, h2⟩ := counts_enterState hn
  refine ⟨h.stationary, h.abortEvent, ?_, h1.trans h.events, ?_, h2.trans h.distance⟩
  · refine ht.imp_left fun ⟨hm, _⟩ => ⟨?_, hm⟩
    show (s.crm.enter t _ _).watch = true
    rw [Crm.watch_enter, hm]
  · show (s.crm.enter t (isHoldEntry s.stc.state t) _).rebase = b
    rw [hn, Crm.rebase_enter _ hw, h.rebase]

theorem Watched.followLift : Watched e b d (followLift s) := by
  obtain ⟨h1, h2, h3, h4, h5, h6⟩ := h
  unfold Machine.followLift
  split <;> exact ⟨h1, h2, h3, h4, h5, h6⟩

theorem Watched.takeAlarmCause (a : AlarmCause) : Watched e b d (takeAlarmCause a s) := by
  obtain ⟨h1, h2, h3, h4, h5, h6⟩ := h
  unfold Machine.takeAlarmCause
  split
  · refine Watched.enterState (t := .alarm) ?_ (by simp)
    exact ⟨h1, h2, h3, h4, h5, h6⟩
  · exact ⟨h1, h2, h3, h4, h5, h6⟩

theorem Watched.returnToOrigin (hm : s.stc.state.monitored = true) : Watched e b d (returnToOrigin s) := by
  have ho : (s.stc.origin.getD .holding).toState.monitored = true := by
    cases s.stc.origin.getD .holding <;> rfl
  have h1 := h.enterState (.inl ⟨ho, hm⟩)
  unfold Machine.returnToOrigin
  dsimp only
  split
  · exact h1.enterState (.inl ⟨rfl, ho⟩)
  · exact h1

theorem Watched.rampOver : Watched e b d (rampOver s) := by
  have h0 : Watched e b d { s with hoe := { s.hoe with phase := .idle, replies := Table.fill none } } := by
    obtain ⟨h1, h2, h3, h4, h5, h6⟩ := h
    exact ⟨h1, h2, h3, h4, h5, h6⟩
  unfold Machine.rampOver
  dsimp only
  split
  · exact h0.enterState (by simp)
  · obtain ⟨h1, h2, h3, h4, h5, h6⟩ := h0.enterState (t := .free) (by simp)
    exact ⟨h1, h2, h3, h4, h5, h6⟩

theorem Watched.hop {t : State} (r : Hop s t) : Watched e b d t := by
  have releasing : s.stc.state ≠ .releasing := h.ne rfl (by simp) (by simp) (by simp) (by simp)
  have offline : s.stc.state ≠ .offline := h.ne rfl (by simp) (by simp) (by simp) (by simp)
  have standing : s.stc.state ≠ .standstill := h.ne rfl (by simp) (by simp) (by simp) (by simp)
  have leaving (hx : exchanging s = true) : s.stc.state.monitored = true := by
    rw [((exchanging_iff s).1 hx).1]
    rfl
  have hu := h
  obtain ⟨h1, h2, h3, h4, h5, h6⟩ := h
  cases r with
  | goto x hm =>
    refine hu.enterState ?_
    cases exitMove_goto hm with
    | startsStanding hs | startsFree hs => exact absurd hs offline
    | stands _ _ ha => simp [standstillAllowed, h1] at ha
    | secures hs _ => exact .inl ⟨rfl, by rw [hs.resolve_left standing]; rfl⟩
    | holds hs => exact absurd hs standing
    | _ => simp
  | peerShows n _ => exact hu.takeAlarmCause _
  | peerAlarm n rest _ _ =>
    exact Watched.takeAlarmCause (s := { s with agenda := { s.agenda with peerAlarms := rest } }) ⟨h1, h2, h3, h4, h5, h6⟩ _
  | rollaway r rest _ ha =>
    rw [takeRollaway, if_pos ha]
    refine Watched.enterState (t := .alarm) ?_ (by simp)
    exact ⟨h1, h2, h3, h4, h5, h6⟩
  | exchange hm =>
    have hs : s.stc.state.monitored = true := by rcases (exitMove_exchange hm).1 with hs | hs <;> rw [hs] <;> rfl
    obtain ⟨k1, k2, k3, k4, k5, k6⟩ := Watched.enterState (s := { s with hoe := s.hoe.startExchange })
      ⟨h1, h2, h3, h4, h5, h6⟩ (t := .leaving) (.inl ⟨rfl, hs⟩)
    exact ⟨k1, k2, k3, k4, k5, k6⟩
  | withdraw hm => exact Watched.returnToOrigin ⟨h1, h2, h3, h4, h5, h6⟩ (leaving (exitMove_withdraw hm).1)
  | yield _ _ _ hx => exact Watched.returnToOrigin ⟨h1, h2, h3, h4, h5, h6⟩ (leaving hx)
  | unparked _ rest _ _ hs =>
    exact Watched.enterState (s := { s with agenda := { s.agenda with ends := rest } }) ⟨h1, h2, h3, h4, h5, h6⟩
      (.inl ⟨rfl, by show s.stc.state.monitored = true; rw [hs]; rfl⟩)
  | rampOver _ _ _ => exact hu.rampOver
  | released hs _ _ | reheldAtOnce hs _ _ _ => exact absurd hs releasing
  | reheld ha _ => simp [h2] at ha
  | aborted _ hr _ | abortedByPeer _ hr => exact absurd ((releaseInProgress_iff s).1 hr).1 releasing

end

theorem kept_watched (e : Nat) (b d : Int) : Kept (Watched e b d) where
  nearly := fun s t h q =>
    { stationary := moving_of_nearly h.stationary q
      abortEvent := Bool.eq_false_iff.2 fun he => Bool.false_ne_true (h.abortEvent.symm.trans (q.calls.abortEvent he))
      state := by rw [watch_of_standing q.standing, state_of_standing q.standing]; exact h.state
      events := (congrArg (fun x => x.crm.eOwn) q.standing).trans h.events
      rebase := (congrArg (fun x => x.crm.rebase) q.standing).trans h.rebase
      distance := (congrArg (fun x => x.crm.d) q.standing).trans h.distance }
  followLift := fun _ h => h.followLift
  hop := fun _ _ h r => h.hop r
  minor := fun s t h m => by
    obtain ⟨h1, h2, h3, h4, h5, h6⟩ := h
    cases m with
    | deferAsk => unfold deferAsk; split <;> exact ⟨h1, h2, h3, h4, h5, h6⟩
    | testUnpark => unfold testUnpark; dsimp only; (repeat' split) <;> exact ⟨h1, h2, h3, h4, h5, h6⟩
    | _ => exact ⟨h1, h2, h3, h4, h5, h6⟩

/-! ### The pulse -/

/-- A pulse has been counted, its tests taken and its reports called for. -/
def pulsed (w : Wheel) (dir : Direction) (s : State) : State := pulseReports s (rollawayTest (pulse w dir s))

theorem exec_wheelPulse (w : Wheel) (dir : Direction) (s : State) :
    exec (.wheelPulse w dir) s = .next (settle (sync (pulsed w dir s))) := by rw [settle_sync]; rfl

/-- What the tests of a pulse leave of its counts: the rollaway test writes the agenda alone, the creep test the events. -/
theorem crm_rollawayTest (s : State) : (rollawayTest s).crm = s.crm := by
  unfold rollawayTest
  split <;> rfl

theorem counted_pulse (w : Wheel) (dir : Direction) (s : State) :
    (pulsed w dir s).crm = (s.crm.pulse w dir s.suc.axle).creepTest s.suc.vehicle.creepThreshold :=
  crm_rollawayTest (pulse w dir s)

theorem steady_pulsed (w : Wheel) (dir : Direction) (s : State) : steady (pulsed w dir s) = steady (pulse w dir s) := by
  unfold pulsed pulseReports rollawayTest
  split <;> rfl

theorem counts_pulsed (w : Wheel) (dir : Direction) (s : State) :
    counts (pulsed w dir s) = ((s.crm.pulse w dir s.suc.axle).left, (s.crm.pulse w dir s.suc.axle).right,
      (s.crm.pulse w dir s.suc.axle).axle, (s.crm.pulse w dir s.suc.axle).d) := by
  unfold counts
  rw [counted_pulse, Crm.creepTest]
  split <;> rfl

theorem stc_pulsed (w : Wheel) (dir : Direction) (s : State) : (pulsed w dir s).stc = s.stc := by
  unfold pulsed pulseReports rollawayTest
  split <;> rfl

theorem standstill_pulsed (w : Wheel) (dir : Direction) (s : State) : (pulsed w dir s).crm.standstill = false := by
  rw [counted_pulse, Crm.creepTest]
  split <;> rfl

/-- What the steady parts show of a pulse once it is settled. -/
theorem steady_wheelPulse (w : Wheel) (dir : Direction) (s : State) :
    steady (settle (sync (pulsed w dir s))) = steady (pulse w dir s) := by
  rw [steady_settle, steady_sync, steady_pulsed]

theorem flag_wheelPulse (w : Wheel) (dir : Direction) (s : State) :
    (settle (sync (pulsed w dir s))).crm.standstill = false
      ∧ (settle (sync (pulsed w dir s))).crm.standstillTimer = some 500 := by
  have h := steady_wheelPulse w dir s
  have h1 := congrArg Steady.standstill h
  have h2 := congrArg Steady.standstillTimer h
  have hp : (pulse w dir s).crm.standstill = false ∧ (pulse w dir s).crm.standstillTimer = some 500 := by
    unfold pulse Crm.creepTest
    dsimp only
    split <;> exact ⟨rfl, rfl⟩
  exact ⟨h1.trans hp.1, h2.trans hp.2⟩

theorem window_wheelPulse (w : Wheel) (dir : Direction) (s : State) :
    (settle (sync (pulsed w dir s))).glu.accWindow = (if s.crm.standstill then [] else s.glu.accWindow) := by
  have h : _ = (pulse w dir s).glu.accWindow :=
    congrArg (fun x => x.glu.accWindow) (steady_wheelPulse w dir s)
  refine h.trans ?_
  unfold pulse
  dsimp only
  split <;> rfl

/-- A pulse of a station that does not stand is counted, and the counts stay. -/
theorem moving_wheelPulse (w : Wheel) (dir : Direction) {s : State} (hs : s.stc.state ≠ .standstill) :
    Moving (counts (pulsed w dir s)) (settle (sync (pulsed w dir s))) :=
  (kept_moving _).settle
    { stationary := stationary_sync (standstill_pulsed w dir s)
      state := by rw [show (sync (pulsed w dir s)).stc.state = _ from congrArg Stc.state (stc_pulsed w dir s)]; exact hs
      counts := rfl }

/-! ### A pulse of a standing station -/

/-- A pulse takes a station that stands under no condition to FREE (R5). -/
theorem exitMove_of_rolling {s : State} (h : Rolls .standstill s) (hc : securing s = false) :
    exitMove s = some (.goto .free) := by
  unfold exitMove alarmExit
  rw [h.failure, h.alarms]
  simp [stateExit, h.state, h.inhibit, hc, h.stationary]

/-- Without the watch, a pulse asks for no report but the tests (R97). -/
theorem pulsed_of_unwatched {w : Wheel} {dir : Direction} {s : State} (hw : s.crm.watch = false) :
    pulsed w dir s = pulseReports s (pulse w dir s) := by
  have hr : (pulse w dir s).crm.watch = false := by
    unfold pulse Crm.creepTest
    dsimp only
    split <;> exact hw
  rw [pulsed, rollawayTest, if_neg (by simp [Crm.rolls, hr])]

theorem rolls_pulsed {w : Wheel} {dir : Direction} {s : State} (h : Settled s) (hf : failureRaised s = false)
    (ha : unacknowledgedAlarms s = []) (hs : s.stc.state = .standstill) (hw : s.crm.watch = false)
    (hi : s.suc.inhibit = false) : Rolls .standstill (sync (pulsed w dir s)) := by
  have hv := stationary_sync (standstill_pulsed w dir s)
  have q := quietly_sync (pulsed w dir s)
  rw [pulsed_of_unwatched hw] at hv q ⊢
  refine ⟨hs, hv, hi, hf, q.alarms.trans ha, congrArg Agenda.rollaways h.1, congrArg Agenda.peerAlarms h.1,
    congrArg Agenda.abortEvent h.1, ?_⟩
  have := counted_pulse w dir s
  rw [pulsed_of_unwatched hw] at this
  refine (congrArg Crm.watch this).trans ?_
  rw [Crm.creepTest]
  split <;> exact hw

/-- The pulse of a quiet standing station. -/
theorem free_wheelPulse {w : Wheel} {dir : Direction} {s : State} (h : Settled s) (hf : failureRaised s = false)
    (ha : unacknowledgedAlarms s = []) (hs : s.stc.state = .standstill) (hw : s.crm.watch = false)
    (hi : s.suc.inhibit = false) (hc : securing s = false) :
    Rolls .free (settle (sync (pulsed w dir s)))
      ∧ Moving (counts (pulsed w dir s)) (settle (sync (pulsed w dir s))) := by
  have h0 : Rolls .standstill (atExits (pulsed w dir s)) := by
    obtain ⟨h1, h2, h3, h4, h5, h6, h7, h8, h9⟩ := rolls_pulsed (w := w) (dir := dir) h hf ha hs hw hi
    exact ⟨h1, h2, h3, h4, h5, h6, h7, h8, h9⟩
  have h1 := h0.followLift.minor .tendHandoff
  have hc1 : securing (tendHandoff (followLift (atExits (pulsed w dir s)))) = false := by
    have k : steady (tendHandoff (followLift (atExits (pulsed w dir s)))) = steady (pulsed w dir s) := by
      rw [steady_tendHandoff, steady_followLift, (quietly_atExits _).steady]
    rw [securing_of_steady k, pulsed_of_unwatched hw]
    exact hc
  have hm := exitMove_of_rolling h1 hc1
  have hx : nextReport (sync (pulsed w dir s)) = some (testExits (atExits (pulsed w dir s))) := by
    rw [pulsed_of_unwatched hw]
    exact nextReport_exits (congrArg Agenda.ends h.1) (congrArg Agenda.rollaways h.1) (congrArg Agenda.peerAlarms h.1)
      (congrArg Agenda.abortEvent h.1) (congrArg Agenda.yields h.1) rfl
  have r := settle_first hx
  rw [testExits] at r
  simp only [hm] at r
  have moved : Moving (counts (pulsed w dir s)) (enterState .free (tendHandoff (followLift (atExits (pulsed w dir s))))) := by
    have hn : isHoldEntry (tendHandoff (followLift (atExits (pulsed w dir s)))).stc.state .free = false := by
      simp [isHoldEntry]
    obtain ⟨-, c1, c2, c3, c4⟩ := counts_enterState hn
    refine ⟨h1.free.stationary, by simp, ?_⟩
    rw [counts, c1, c2, c3, c4]
    unfold followLift
    split <;> rfl
  rw [settle_sync]
  exact ⟨kept_rolls.run (kept_rolls.afterMove h1.free) r, (kept_moving _).run ((kept_moving _).afterMove moved) r⟩

/-- The pulse of a watched station moves its counts and its rebase alone (R96). -/
theorem watched_wheelPulse {w : Wheel} {dir : Direction} {s : State} (h : Settled s) (hw : s.crm.watch = true)
    (hm : s.stc.state.monitored = true) :
    Watched (pulsed w dir s).crm.eOwn (pulsed w dir s).crm.rebase (pulsed w dir s).crm.d
      (settle (sync (pulsed w dir s))) := by
  refine (kept_watched _ _ _).settle
    ⟨stationary_sync (standstill_pulsed w dir s), ?_, .inl ⟨?_, ?_⟩, rfl, rfl, rfl⟩
  · show (pulsed w dir s).agenda.abortEvent = false
    have : s.agenda.abortEvent = false := congrArg Agenda.abortEvent h.1
    unfold pulsed pulseReports rollawayTest
    split <;> exact this
  · show (pulsed w dir s).crm.watch = true
    rw [counted_pulse, Crm.creepTest]
    split <;> exact hw
  · show (pulsed w dir s).stc.state.monitored = true
    rw [stc_pulsed, hm]

/-- Settles O32: no transition of a moving station changes the counts; FREE and the watch are kept by what follows. -/
theorem pulseCounts : Obligations.PulseCounts := by
  refine ⟨fun w dir s hs => ?_, fun w dir s h hf ha hs hw hi hc => ?_, fun w dir s d h hw hm hd => ?_⟩
  · have hk := (moving_wheelPulse w dir hs).counts
    rw [counts_pulsed] at hk
    obtain ⟨h1, h2⟩ := Prod.mk.inj hk
    obtain ⟨h2, h3⟩ := Prod.mk.inj h2
    obtain ⟨h3, h4⟩ := Prod.mk.inj h3
    refine ⟨_, exec_wheelPulse w dir s, h1, h2, ?_, ?_, (flag_wheelPulse w dir s).1, (flag_wheelPulse w dir s).2,
      window_wheelPulse w dir s⟩
    · rw [h1, h2, h3]; rfl
    · rw [h3, h4]; rfl
  · obtain ⟨hr, hk⟩ := free_wheelPulse (w := w) (dir := dir) h hf ha hs hw hi hc
    have hk := hk.counts
    rw [counts_pulsed] at hk
    obtain ⟨h1, h2⟩ := Prod.mk.inj hk
    obtain ⟨h2, h3⟩ := Prod.mk.inj h2
    obtain ⟨h3, h4⟩ := Prod.mk.inj h3
    refine ⟨_, exec_wheelPulse w dir s, hr.state, hr.stationary, h1, h2, ?_, (flag_wheelPulse w dir s).1,
      (flag_wheelPulse w dir s).2⟩
    rw [h1, h2, h4]; rfl
  · have hk := watched_wheelPulse (w := w) (dir := dir) h hw hm
    have hp := counted_pulse w dir s
    have hcreep : (s.crm.pulse w dir s.suc.axle).creeps s.suc.vehicle.creepThreshold
        = decide (s.suc.vehicle.creepThreshold ≤ (d - s.crm.rebase).natAbs) := by
      rw [hd]
      show (s.crm.watch && _) = _
      rw [hw, Bool.true_and]
      rfl
    refine ⟨_, exec_wheelPulse w dir s, ?_, fun hc => ?_, fun hc => ?_⟩
    · rw [hk.distance, hp, Crm.creepTest, hd]
      split <;> rfl
    · rw [hk.events, hk.rebase, hp, Crm.creepTest, if_pos (by rw [hcreep, decide_eq_true hc]), hd]
      exact ⟨rfl, rfl⟩
    · rw [hk.events, hk.rebase, hp, Crm.creepTest, if_neg (by rw [hcreep, decide_eq_false (by omega)]; simp)]
      exact ⟨rfl, rfl⟩

end Sys2Proof.Machine
end

section
/-! PROOFS. A computation repeated in a station that stays (R53): HPL's own results are announced in the own entry, and a computation
that finds the rest of its inputs as they were finds the same plan. -/

namespace Sys2Proof.Machine

set_option Elab.async false

/-! ### What a computation reads -/

/-- Two states alike in all that a computation reads, HPL's own plan record and what is formed from it apart. -/
structure Alike (s t : State) : Prop where
  steady : steady t = steady s
  state : t.stc.state = s.stc.state
  lifted : t.stc.lifted = s.stc.lifted
  mark : t.stc.unparkMark = s.stc.unparkMark
  events : t.crm.eOwn = s.crm.eOwn
  springs : t.mod.springsCounted = s.mod.springsCounted
  faults : ∀ f : Flag, f.sticky = true → f ≠ .queueOverrun → t.stc.faults.get f = s.stc.faults.get f

section

variable {s t : State} (h : Alike s t)

include h

theorem Alike.own : own t = own s := own_of_steady h.steady
theorem Alike.suc : t.suc = s.suc := suc_of_steady h.steady

theorem Alike.isolated : isolatedMode t = isolatedMode s := by
  have h1 : t.stc.faults.linkLost = s.stc.faults.linkLost := h.faults .linkLost rfl (by simp)
  have h2 : t.stc.faults.duplicateId = s.stc.faults.duplicateId := h.faults .duplicateId rfl (by simp)
  unfold isolatedMode isolatedFlags
  rw [h1, h2, h.state]

theorem Alike.gradeValid (hs : Synced s) (ht : Synced t) : t.glu.gradeValid = s.glu.gradeValid := by
  have h1 : t.stc.faults.gradeSensor = s.stc.faults.gradeSensor := h.faults .gradeSensor rfl (by simp)
  have h2 : t.glu.accWindow = s.glu.accWindow := congrArg (fun x => x.glu.accWindow) h.steady
  have h3 : t.glu.accAnswering = s.glu.accAnswering := congrArg (fun x => x.glu.accAnswering) h.steady
  have h4 : t.crm.standstill = s.crm.standstill := congrArg Steady.standstill h.steady
  rw [← ht.grade, ← hs.grade, gradeValidOf, gradeValidOf, h1, h2, h3, h4]

theorem Alike.loadValid (hs : Synced s) (ht : Synced t) : t.glu.loadValid = s.glu.loadValid := by
  have h1 : t.stc.faults.loadSensor = s.stc.faults.loadSensor := h.faults .loadSensor rfl (by simp)
  have h2 : t.glu.loadWindow = s.glu.loadWindow := congrArg (fun x => x.glu.loadWindow) h.steady
  rw [← ht.load, ← hs.load, loadValidOf, loadValidOf, h1, h2]

theorem Alike.ownGrade : t.glu.ownGrade = s.glu.ownGrade := congrArg (fun x => x.glu.ownGrade) h.steady
theorem Alike.loadAverage : t.glu.loadAverage = s.glu.loadAverage := congrArg (fun x => x.glu.loadAverage) h.steady

theorem Alike.mass (hs : Synced s) (ht : Synced t) : massContribution t = massContribution s := by
  unfold massContribution
  rw [h.loadValid hs ht, h.loadAverage, h.suc]

/-- The parts of an entry that the plan reads of the own and of the peers' entries alike. -/
theorem Alike.entry (hs : Synced s) (ht : Synced t) (n : StationNo) :
    (entryOf t n).inPool = (entryOf s n).inPool ∧ (entryOf t n).freshCreep = (entryOf s n).freshCreep
      ∧ (entryOf t n).validGrade = (entryOf s n).validGrade := by
  by_cases hn : n = Machine.own s
  · have e1 := ht.entry
    have e2 := hs.entry
    rw [h.own] at e1
    subst hn
    rw [e1, e2]
    simp [ownEntry, ownFlags, Entry.inPool, Entry.freshCreep, Entry.validGrade, Entry.isFresh, h.state, h.lifted,
      h.events, h.gradeValid hs ht, h.ownGrade]
  · rw [peers_of_steady h.steady hn]
    exact ⟨rfl, rfl, rfl⟩

theorem Alike.pool (hs : Synced s) (ht : Synced t) : t.ptb.pool = s.ptb.pool := by
  have e1 : poolOf t.ptb.entries = t.ptb.pool := congrArg Ptb.pool ht.table
  have e2 : poolOf s.ptb.entries = s.ptb.pool := congrArg Ptb.pool hs.table
  rw [← e1, ← e2]
  exact List.filter_congr fun n _ => (h.entry hs ht n).1

theorem Alike.isFixed : isFixed (Machine.own t) t.ptb.entries = isFixed (Machine.own s) s.ptb.entries := by
  funext n
  unfold Machine.isFixed
  rw [h.own]
  by_cases hn : n = Machine.own s
  · simp [hn]
  · rw [show t.ptb.entries.get n = s.ptb.entries.get n from peers_of_steady h.steady hn]

theorem Alike.fixedSet (hs : Synced s) (ht : Synced t) : t.ptb.fixedSet = s.ptb.fixedSet := by
  have e1 : (poolOf t.ptb.entries).filter (Machine.isFixed (Machine.own t) t.ptb.entries) = t.ptb.fixedSet :=
    congrArg Ptb.fixedSet ht.table
  have e2 : (poolOf s.ptb.entries).filter (Machine.isFixed (Machine.own s) s.ptb.entries) = s.ptb.fixedSet :=
    congrArg Ptb.fixedSet hs.table
  have p1 : poolOf t.ptb.entries = t.ptb.pool := congrArg Ptb.pool ht.table
  have p2 : poolOf s.ptb.entries = s.ptb.pool := congrArg Ptb.pool hs.table
  rw [← e1, ← e2, h.isFixed, p1, p2, h.pool hs ht]

theorem Alike.flexibleSet (hs : Synced s) (ht : Synced t) : t.ptb.flexibleSet = s.ptb.flexibleSet := by
  have e1 : (poolOf t.ptb.entries).filter (fun n => !Machine.isFixed (Machine.own t) t.ptb.entries n) = t.ptb.flexibleSet :=
    congrArg Ptb.flexibleSet ht.table
  have e2 : (poolOf s.ptb.entries).filter (fun n => !Machine.isFixed (Machine.own s) s.ptb.entries n) = s.ptb.flexibleSet :=
    congrArg Ptb.flexibleSet hs.table
  have p1 : poolOf t.ptb.entries = t.ptb.pool := congrArg Ptb.pool ht.table
  have p2 : poolOf s.ptb.entries = s.ptb.pool := congrArg Ptb.pool hs.table
  rw [← e1, ← e2, h.isFixed, p1, p2, h.pool hs ht]

theorem Alike.eVehicle (hs : Synced s) (ht : Synced t) : t.ptb.eVehicle = s.ptb.eVehicle := by
  have e1 := congrArg Ptb.eVehicle ht.table
  have e2 := congrArg Ptb.eVehicle hs.table
  simp only [Ptb.derive] at e1 e2
  have e (n : StationNo) : (t.ptb.entries.get n).freshCreep = (s.ptb.entries.get n).freshCreep := (h.entry hs ht n).2.1
  rw [← e1, ← e2]
  unfold eVehicleOf
  simp only [e]

theorem Alike.gradeUsed (hs : Synced s) (ht : Synced t) : gradeUsed t = gradeUsed { s with hpl := t.hpl } := by
  have e : allGrades t = allGrades s := List.filterMap_congr fun n _ => (h.entry hs ht n).2.2
  show (if isolatedMode t then _ else (medianGrade (allGrades t)).getD _) = (if isolatedMode s then
    (if s.glu.gradeValid then s.glu.ownGrade else none).getD (fallbackGrade t.hpl.lastG)
      else (medianGrade (allGrades s)).getD (fallbackGrade t.hpl.lastG))
  rw [h.isolated, e, h.gradeValid hs ht, h.ownGrade]

/-- A sum over the peers of a set reads their entries alone. -/
theorem Alike.sum (l : List StationNo) (f : Entry → Nat) :
    (l.filter (fun n => decide (n ≠ Machine.own t))).map (fun n => f (entryOf t n))
      = (l.filter (fun n => decide (n ≠ Machine.own s))).map (fun n => f (entryOf s n)) := by
  rw [h.own]
  refine List.map_congr_left fun n hn => ?_
  rw [peers_of_steady h.steady (by simpa using (List.mem_filter.1 hn).2)]

theorem Alike.ownCounted (hs : Synced s) (ht : Synced t) : ownCounted t = ownCounted s := by
  unfold Machine.ownCounted
  rw [h.flexibleSet hs ht, h.own, h.state]

theorem Alike.poolMass (hs : Synced s) (ht : Synced t) (a : AxleParams) : poolMass t a = poolMass s a := by
  unfold Machine.poolMass
  rw [h.isolated, h.sum _ Entry.load, h.pool hs ht, h.own, h.state, h.mass hs ht]

theorem Alike.marginFactor (hs : Synced s) (ht : Synced t) : marginFactor t = marginFactor s := by
  have h1 : t.ptb.drum = s.ptb.drum := congrArg Steady.drum h.steady
  unfold Machine.marginFactor
  rw [h.suc, h1, h.eVehicle hs ht]

theorem Alike.remainderOf (hs : Synced s) (ht : Synced t) (r : Nat) : remainderOf t r = remainderOf s r := by
  unfold Machine.remainderOf
  rw [h.fixedSet hs ht]
  congr 2
  refine List.map_congr_left fun n hn => ?_
  have e : (poolOf s.ptb.entries).filter (Machine.isFixed (Machine.own s) s.ptb.entries) = s.ptb.fixedSet :=
    congrArg Ptb.fixedSet hs.table
  have hn : n ≠ Machine.own s := by
    rw [← e] at hn
    have := (List.mem_filter.1 hn).2
    simp only [Machine.isFixed, Bool.and_eq_true, decide_eq_true_eq] at this
    exact this.1
  rw [peers_of_steady h.steady hn]

theorem Alike.poolCapacityOf (hs : Synced s) (ht : Synced t) (c : Nat) : poolCapacityOf t c = poolCapacityOf s c := by
  unfold Machine.poolCapacityOf
  rw [h.flexibleSet hs ht, h.sum _ Entry.capacity, h.ownCounted hs ht]

theorem Alike.topPressure (a : AxleParams) : topPressure t a = topPressure s a := by
  have h1 : t.stc.faults.supplySensor = s.stc.faults.supplySensor := h.faults .supplySensor rfl (by simp)
  have h2 : t.mod.pSup = s.mod.pSup := congrArg (fun x => x.sensed.pSup) h.steady
  unfold Machine.topPressure
  rw [h1, h2]

theorem Alike.frictionLimit (hs : Synced s) (ht : Synced t) (a : AxleParams) : frictionLimit t a = frictionLimit s a := by
  unfold Machine.frictionLimit frictionLoad
  rw [h.loadValid hs ht, h.loadAverage, cabNow_of_steady h.steady]

theorem Alike.springsCountedForce (a : AxleParams) : springsCountedForce t a = springsCountedForce s a := by
  unfold Machine.springsCountedForce
  rw [h.suc, h.springs]

theorem Alike.springCapacityOf (hs : Synced s) (ht : Synced t) (a : AxleParams) (l : Nat) :
    springCapacityOf t a l = springCapacityOf s a l := by
  unfold Machine.springCapacityOf
  rw [h.suc, h.isolated, h.pool hs ht, h.own]
  congr 3
  have e (n : StationNo) (hn : n ≠ Machine.own s) : entryOf t n = entryOf s n := peers_of_steady h.steady hn
  have hf : (s.ptb.pool.filter (fun n => decide (n ≠ Machine.own s) && (entryOf t n).spring))
      = s.ptb.pool.filter (fun n => decide (n ≠ Machine.own s) && (entryOf s n).spring) := by
    refine List.filter_congr fun n _ => ?_
    by_cases hn : n = Machine.own s
    · simp [hn]
    · rw [e n hn]
  rw [hf]
  refine (List.map_congr_left fun n hn => ?_)
  have := (List.mem_filter.1 hn).2
  simp only [Bool.and_eq_true, decide_eq_true_eq] at this
  rw [e n this.1]

/-- The same inputs give the same plan from the same record (R53). -/
theorem fullPlan_alike (hs : Synced s) (ht : Synced t) (a : AxleParams) :
    fullPlan t a = fullPlan { s with hpl := t.hpl } a := by
  have demand (p : Plan) : demandStage t a p = demandStage { s with hpl := t.hpl } a p := by
    unfold demandStage
    rw [h.gradeUsed hs ht, show poolMass t a = poolMass { s with hpl := t.hpl } a from h.poolMass hs ht a,
      show marginFactor t = marginFactor { s with hpl := t.hpl } from h.marginFactor hs ht,
      show t.suc = ({ s with hpl := t.hpl } : State).suc from h.suc]
  have capacity (p : Plan) : capacityStage t a p = capacityStage { s with hpl := t.hpl } a p := by
    unfold capacityStage
    rw [show Machine.topPressure t a = Machine.topPressure { s with hpl := t.hpl } a from h.topPressure a,
      show Machine.frictionLimit t a = Machine.frictionLimit { s with hpl := t.hpl } a from h.frictionLimit hs ht a,
      show Machine.springsCountedForce t a = Machine.springsCountedForce { s with hpl := t.hpl } a
        from h.springsCountedForce a]
  have share (p : Plan) : shareStage t p = shareStage { s with hpl := t.hpl } p := by
    unfold shareStage shareCapacity
    rw [show t.stc.unparkMark = ({ s with hpl := t.hpl } : State).stc.unparkMark from h.mark,
      show t.stc.state = ({ s with hpl := t.hpl } : State).stc.state from h.state,
      show isolatedMode t = isolatedMode { s with hpl := t.hpl } from h.isolated,
      show Machine.remainderOf t p.fReq = Machine.remainderOf { s with hpl := t.hpl } p.fReq from h.remainderOf hs ht _,
      show Machine.ownCounted t = Machine.ownCounted { s with hpl := t.hpl } from h.ownCounted hs ht]
    simp only [show ∀ c, Machine.poolCapacityOf t c = Machine.poolCapacityOf { s with hpl := t.hpl } c
      from h.poolCapacityOf hs ht]
  have target (p : Plan) : targetStage t a p = targetStage { s with hpl := t.hpl } a p := by
    unfold targetStage
    rw [show t.stc.unparkMark = ({ s with hpl := t.hpl } : State).stc.unparkMark from h.mark]
  have achieved (p : Plan) : achievedStage t a p = achievedStage { s with hpl := t.hpl } a p := by
    unfold achievedStage
    rw [show t.mod.pMeas = ({ s with hpl := t.hpl } : State).mod.pMeas from pMeas_of_steady h.steady]
  have spring (p : Plan) : springStage t a p = springStage { s with hpl := t.hpl } a p := by
    unfold springStage
    rw [show t.stc.state = ({ s with hpl := t.hpl } : State).stc.state from h.state,
      show Machine.springCapacityOf t a p.l = Machine.springCapacityOf { s with hpl := t.hpl } a p.l
        from h.springCapacityOf hs ht a _]
  unfold Machine.fullPlan
  rw [demand, capacity, share, target, achieved, spring]

end

end Sys2Proof.Machine
end

section
/-! PROOFS. After a plan event, a station that stays submits nothing more (`Idles`): its later computations find the plan again. -/

namespace Sys2Proof.Machine

set_option Elab.async false

/-! ### A computation and its submission -/

/-- What the planner has done and what asks it to submit: its record, MOD, a forced submission, and the un-park mark. -/
structure Kernel where
  hpl : Plan
  mod : Mod
  force : Bool
  mark : Bool

def kernel (s : State) : Kernel :=
  { hpl := s.hpl, mod := s.mod, force := s.agenda.force, mark := s.stc.unparkMark }

theorem kernel_reformAnswers (s : State) : kernel (reformAnswers s) = kernel s := by
  have h1 (u : State) (n : StationNo) : kernel (reformAnswer u n) = kernel u := by
    unfold reformAnswer
    (repeat' split) <;> rfl
  have h (l : List StationNo) (u : State) : kernel (l.foldl reformAnswer u) = kernel u := by
    induction l generalizing u with
    | nil => rfl
    | cons n l ih => exact (ih _).trans (h1 u n)
  exact h _ s

theorem kernel_formDownhill (s : State) : kernel (formDownhill s) = kernel s := by
  unfold formDownhill rollawayTest
  dsimp only
  (repeat' split) <;> rfl

/-- One computation writes the plan of the moment and leaves the rest of the kernel (R53). -/
theorem kernel_compute (s : State) : kernel (compute s) = { kernel s with hpl := computedPlan s } := by
  have conditions (u : State) : kernel (currentConditions u) = kernel u := by
    unfold currentConditions
    dsimp only
    (repeat' split) <;> rfl
  unfold compute callStatusIf
  dsimp only
  split
  · exact conditions { s with hpl := computedPlan s }
  · exact conditions { s with hpl := computedPlan s }

/-- The plausibility timer is not an input of the plan (R48). -/
theorem computedPlan_comparePlausibility (s : State) : computedPlan (comparePlausibility s) = computedPlan s := by
  generalize hz : timerWhile (gradeDisagrees s) 2000 s.glu.plausibilityTimer = z
  have hc : comparePlausibility s = { s with glu := { s.glu with plausibilityTimer := z } } := by rw [← hz]; rfl
  have stages (a : AxleParams) :
      demandStage (comparePlausibility s) a = demandStage s a ∧ capacityStage (comparePlausibility s) a = capacityStage s a
        ∧ shareStage (comparePlausibility s) = shareStage s ∧ targetStage (comparePlausibility s) a = targetStage s a
        ∧ achievedStage (comparePlausibility s) a = achievedStage s a
        ∧ springStage (comparePlausibility s) a = springStage s a := by
    rw [hc]
    exact ⟨rfl, rfl, rfl, rfl, rfl, rfl⟩
  have full (a : AxleParams) : fullPlan (comparePlausibility s) a = fullPlan s a := by
    obtain ⟨h1, h2, h3, h4, h5, h6⟩ := stages a
    unfold fullPlan
    rw [h1, h2, h3, h4, h5, h6]
    rfl
  have outside : outsidePlan (comparePlausibility s) = outsidePlan s := by
    have hg : gradeUsed (comparePlausibility s) = gradeUsed s := by rw [hc]; rfl
    have ha : (comparePlausibility s).suc = s.suc := rfl
    have hp : (comparePlausibility s).hpl = s.hpl := rfl
    unfold outsidePlan
    rw [hg, ha, hp]
    cases s.suc.axle with
    | none => rfl
    | some a =>
      obtain ⟨-, hc, -, -, ha, -⟩ := stages a
      dsimp only
      rw [hc, ha]
  have hs : (comparePlausibility s).stc = s.stc := rfl
  have ha : (comparePlausibility s).suc = s.suc := rfl
  have hp : (comparePlausibility s).hpl = s.hpl := rfl
  have locked : (fun a => achievedStage (comparePlausibility s) a s.hpl) = fun a => achievedStage s a s.hpl := by
    funext a
    obtain ⟨-, -, -, -, ha, -⟩ := stages a
    rw [ha]
  unfold computedPlan
  rw [hs, ha, hp, outside, show fullPlan (comparePlausibility s) = fullPlan s from funext full, locked]

/-- A plan event decides on a submission in a state whose plan is the one computed (R53, R66). -/
theorem planEvent_decides (b : Bool) (s : State) :
    ∃ v, planEvent b s = submissionDecision b v ∧ kernel v = { kernel s with hpl := computedPlan s }
      ∧ v.stc.state = s.stc.state ∧ v.agenda.ends = s.agenda.ends := by
  have downhill (u : State) : (formDownhill u).stc = u.stc ∧ (formDownhill u).agenda.ends = u.agenda.ends := by
    unfold formDownhill rollawayTest
    dsimp only
    (repeat' split) <;> exact ⟨rfl, rfl⟩
  have conditions (u : State) : (currentConditions u).agenda.ends = u.agenda.ends := by
    unfold currentConditions
    dsimp only
    (repeat' split) <;> rfl
  have ends (u : State) : (compute u).agenda.ends = u.agenda.ends := by
    unfold compute callStatusIf
    dsimp only
    split
    · exact conditions { u with hpl := computedPlan u }
    · exact conditions { u with hpl := computedPlan u }
  refine ⟨_, rfl, ?_, ?_, ?_⟩
  · have h1 : kernel (compute (comparePlausibility s)) = { kernel s with hpl := computedPlan s } :=
      (kernel_compute _).trans (by rw [computedPlan_comparePlausibility]; rfl)
    rw [← h1]
    exact kernel_formDownhill _
  · refine (congrArg Stc.state (downhill _).1).trans ?_
    exact state_of_standing ((quietly_comparePlausibility s).trans (quietly_compute _)).standing
  · exact (downhill _).2.trans (ends (comparePlausibility s))

/-- A plan whose submission decision changes nothing (R66). -/
def PlanStands (p : Plan) : Prop := targetRises p = false ∧ waitAfter p = p.decreaseWait

theorem submissionDecision_stands {s : State} (h : PlanStands s.hpl) : submissionDecision false s = s := by
  unfold submissionDecision
  split
  · simp [h.1, h.2]
  · rfl

/-- After a decision in a hold the plan stands. -/
theorem planStands_decision (b : Bool) {s : State} (h : s.stc.state = .holding ∨ s.stc.state = .secured) :
    PlanStands (submissionDecision b s).hpl := by
  have hs : (decide (s.stc.state = .holding) || decide (s.stc.state = .secured)) = true := by simpa using h
  unfold submissionDecision
  rw [if_pos hs]
  split
  · rw [submitTarget_hpl]
    exact ⟨by simp [targetRises], by simp [waitAfter, targetFalls]⟩
  · rename_i hb
    simp only [Bool.or_eq_true, not_or, Bool.not_eq_true] at hb
    exact ⟨hb.2, waitAfter_again _⟩

/-- A submission writes the submitted target and the decrease wait alone in the plan record. -/
theorem decision_hpl (b : Bool) (s : State) :
    ∃ l w, (submissionDecision b s).hpl = { s.hpl with lastSubmitted := l, decreaseWait := w } := by
  unfold submissionDecision
  (repeat' split)
  · exact ⟨_, _, submitTarget_hpl s⟩
  · exact ⟨s.hpl.lastSubmitted, waitAfter s.hpl, rfl⟩
  · exact ⟨s.hpl.lastSubmitted, s.hpl.decreaseWait, rfl⟩

/-- A computation repeated finds the same plan, whatever has been submitted and whatever the limit timer shows since. -/
theorem fullPlan_fixed (s : State) (a : AxleParams) (l : Nat) (w : Option DecreaseWait) (z : Timer) :
    fullPlan { s with hpl := { fullPlan s a with lastSubmitted := l, decreaseWait := w, limitTimer := z } } a
      = { fullPlan s a with lastSubmitted := l, decreaseWait := w, limitTimer := z } := by
  generalize hp : ({ fullPlan s a with lastSubmitted := l, decreaseWait := w, limitTimer := z } : Plan) = p
  have hl : p.lastG = gradeUsed s := by rw [← hp]; exact fullPlan_lastG s a
  have h : fullPlan { s with hpl := p } a
      = springStage s a (achievedStage s a (targetStage s a (shareStage s (capacityStage s a
          (demandStage { s with hpl := p } a p))))) := rfl
  rw [h, demandStage_hpl s a _ _ hl, ← hp]
  unfold fullPlan springStage shareStage
  split <;> split <;> rfl

/-! ### A station whose plan stands -/

/-- The plan of a settled hold is the one that a computation finds again, and asks for no submission. -/
structure Planned (k : State) : Prop where
  synced : Synced k
  state : k.stc.state = .holding ∨ k.stc.state = .secured
  found : ∀ a, k.suc.axle = some a → fullPlan k a = k.hpl
  stands : PlanStands k.hpl
  force : k.agenda.force = false

/-- The station goes on from `k` with its plan and its steps as they are. -/
structure Idles (k s : State) : Prop where
  calm : Undisturbed s
  stays : Stays s
  alike : Alike k s
  kernel : kernel s = kernel k
  unpark : s.stc.state = .secured → s.stc.unparkMark = unparkCondition s

theorem Alike.refl (s : State) : Alike s s := ⟨rfl, rfl, rfl, rfl, rfl, rfl, fun _ _ _ => rfl⟩

theorem Alike.trans {s t u : State} (h : Alike s t) (k : Alike t u) : Alike s u where
  steady := k.steady.trans h.steady
  state := k.state.trans h.state
  lifted := k.lifted.trans h.lifted
  mark := k.mark.trans h.mark
  events := k.events.trans h.events
  springs := k.springs.trans h.springs
  faults := fun f h1 h2 => (k.faults f h1 h2).trans (h.faults f h1 h2)

theorem alike_of_quietly {s t : State} (q : Quietly s t) : Alike s t where
  steady := q.steady
  state := state_of_standing q.standing
  lifted := congrArg (fun x => x.stc.lifted) q.standing
  mark := congrArg (fun x => x.stc.unparkMark) q.standing
  events := congrArg (fun x => x.crm.eOwn) q.standing
  springs := congrArg Outfit.springsCounted q.outfit
  faults := q.sticky

/-- In a hold the computation is a full one (R52). -/
theorem computedPlan_hold {s : State} (h : s.stc.state = .holding ∨ s.stc.state = .secured) :
    computedPlan s = (s.suc.axle.map (fullPlan s)).getD s.hpl := by
  unfold computedPlan
  rcases h with h | h <;> rw [h]

/-- A computation finds the plan again (R53). -/
theorem computedPlan_found {k s : State} (hk : Planned k) (h : Alike k s) (hp : s.hpl = k.hpl) (hs : Synced s) :
    computedPlan s = s.hpl := by
  rw [computedPlan_hold (by rw [h.state]; exact hk.state)]
  cases ha : s.suc.axle with
  | none => rfl
  | some a =>
    have e : fullPlan s a = fullPlan { k with hpl := s.hpl } a := fullPlan_alike h hk.synced hs a
    rw [hp] at e
    exact (e.trans (hk.found a (by rw [← h.suc, ha]))).trans hp.symm

/-- Where the un-park mark shows the condition, its test leaves the kernel as it is (R11, R12). -/
theorem testUnpark_agreed {s : State} (h : s.stc.state = .secured → s.stc.unparkMark = unparkCondition s) :
    kernel (testUnpark s) = kernel s ∧ steady (testUnpark s) = steady s ∧ (testUnpark s).stc.state = s.stc.state := by
  refine ⟨?_, by simp, state_minor .testUnpark⟩
  unfold testUnpark
  dsimp only
  split
  · have h := h ‹_›
    split <;> rename_i hm
    · rw [if_pos (by rw [← h, hm])]
      rfl
    · rw [if_neg (by rw [← h]; simp [hm])]
      rfl
  · rfl

/-- A report that is not a transition's leaves the kernel of an idle hold as it is. -/
theorem Idles.kernel_report {k s t : State} (hk : Planned k) (h : Idles k s) (hs : Synced s) (r : Report s t) :
    Machine.kernel t = Machine.kernel s ∧ (t.stc.state = .secured → t.stc.unparkMark = unparkCondition t) := by
  have hu := h.calm
  have hst : s.stc.state = .holding ∨ s.stc.state = .secured := by rw [h.alike.state]; exact hk.state
  have ne {x : StationState} (h1 : x ≠ .holding) (h2 : x ≠ .secured) : s.stc.state ≠ x := by
    rintro rfl
    exact hst.elim h1 h2
  have keeps {u : State} (e : Machine.kernel u = Machine.kernel s) (hy : steady u = steady s)
      (hstate : u.stc.state = s.stc.state) :
      Machine.kernel u = Machine.kernel s ∧ (u.stc.state = .secured → u.stc.unparkMark = unparkCondition u) := by
    refine ⟨e, fun hu => ?_⟩
    rw [unparkCondition_of_steady hy, show u.stc.unparkMark = s.stc.unparkMark from congrArg Kernel.mark e]
    exact h.unpark (hstate ▸ hu)
  cases r with
  | stepEnd e rest he =>
    have ho : e.outcome = .superseded := hu.ends e (by rw [he]; exact List.mem_cons_self)
    have hl (u : State) : limitedByEnd e u = u := by unfold limitedByEnd; rw [ho]
    have hn (u : State) : takeUnparkEnd e u = u := by
      unfold takeUnparkEnd
      rw [ho]
      split <;> rfl
    rw [takeEnd, hl, hn]
    exact keeps rfl rfl rfl
  | rollaway r rest hr => simp [hu.rollaways] at hr
  | peerAlarm n rest hr => simp [hu.peerAlarms] at hr
  | abortEvent ha => simp [hu.abortEvent] at ha
  | yield m rest _ =>
    rw [testYield, if_neg]
    · exact keeps rfl rfl rfl
    · intro hr
      simp only [Bool.and_eq_true] at hr
      exact ne (by simp) (by simp) ((exchanging_iff _).1 hr.1).1
  | exits _ =>
    have q : Quietly s { s with agenda := { s.agenda with exits := false } } :=
      quietly_agenda _ _ (.of_agenda rfl rfl rfl rfl rfl rfl)
    have hq := hu.nearly q.toNearly
    have sq := h.stays.nearly q.toNearly
    have hm : exitMove (tendHandoff { s with agenda := { s.agenda with exits := false } }) = none :=
      (sq.minor hq .tendHandoff).1.no_move (hq.minor .tendHandoff)
    rw [testExits_none sq.followLift hm]
    have hd (u : State) : Machine.kernel (deferAsk (tendHandoff u)) = Machine.kernel u := by
      unfold deferAsk
      split <;> rfl
    have yd (u : State) : steady (deferAsk (tendHandoff u)) = steady u ∧ (deferAsk (tendHandoff u)).stc = u.stc := by
      refine ⟨by simp, ?_⟩
      unfold deferAsk
      split <;> rfl
    obtain ⟨hy, hc⟩ := yd { s with agenda := { s.agenda with exits := false } }
    obtain ⟨e, hx, hz⟩ := testUnpark_agreed (s := deferAsk (tendHandoff { s with agenda := { s.agenda with exits := false } }))
      (by rw [hc, unparkCondition_of_steady hy]; exact h.unpark)
    rw [testService, if_neg]
    · exact keeps (e.trans (hd _)) (hx.trans hy) (hz.trans (congrArg Stc.state hc))
    · rw [hz, hc]
      simp [ne (x := .service) (by simp) (by simp)]
  | plan _ =>
    have hf : s.agenda.force = false := (congrArg Kernel.force h.kernel).trans hk.force
    have hp : computedPlan { s with agenda := { s.agenda with plan := false, force := false } } = s.hpl := by
      obtain ⟨a1, a2, a3, a4, a5, a6, a7⟩ := h.alike
      obtain ⟨s1, s2, s3, s4, s5⟩ := hs
      exact computedPlan_found (s := { s with agenda := { s.agenda with plan := false, force := false } }) hk
        ⟨a1, a2, a3, a4, a5, a6, a7⟩ (congrArg Kernel.hpl h.kernel) ⟨s1, s2, s3, s4, s5⟩
    have q := quietly_planEvent s.agenda.force { s with agenda := { s.agenda with plan := false, force := false } }
    refine keeps ?_ q.steady (state_of_standing q.standing)
    rw [hf]
    obtain ⟨v, hv, hkv, -, -⟩ := planEvent_decides false { s with agenda := { s.agenda with plan := false, force := false } }
    have hvp : v.hpl = k.hpl := (congrArg Kernel.hpl hkv).trans (hp.trans (congrArg Kernel.hpl h.kernel))
    rw [hv, submissionDecision_stands (by rw [hvp]; exact hk.stands), hkv, hp]
    simp only [Machine.kernel, hf]
  | abortTest _ =>
    rw [testAbort, if_neg]
    · exact keeps rfl rfl rfl
    · intro hr
      exact ne (by simp) (by simp) ((releaseInProgress_iff _).1 hr).1
  | turn _ =>
    rw [testTurn, if_neg]
    · exact keeps rfl rfl rfl
    · intro hr
      simp only [Bool.and_eq_true, decide_eq_true_eq] at hr
      exact ne (by simp) (by simp) hr.1.1
  | ramp _ =>
    have h1 := ne (x := .leaving) (by simp) (by simp)
    have h2 := ne (x := .releasing) (by simp) (by simp)
    rw [testRamp, if_neg (by simp [h1]), if_neg (by simp [h2])]
    exact keeps rfl rfl rfl
  | success _ =>
    rw [testSuccess, if_neg]
    · exact keeps rfl rfl rfl
    · intro hr
      simp only [Bool.and_eq_true] at hr
      exact ne (by simp) (by simp) ((exchanging_iff _).1 hr.1).1
  | answers _ =>
    have q := quietly_reformAnswers { s with agenda := { s.agenda with answers := false } }
    exact keeps (kernel_reformAnswers _) q.steady (state_of_standing q.standing)

/-- A station that idles goes on so. -/
theorem Idles.report {k s t : State} (hk : Planned k) (h : Idles k s) (hs : Synced s) (r : Report s t) : Idles k t := by
  obtain ⟨h1, h2⟩ := h.kernel_report hk hs r
  obtain ⟨hu, hst, hr⟩ := h.stays.run h.calm (report_acts r)
  have hne : s.stc.state ≠ .service := by
    rw [h.alike.state]
    rcases hk.state with e | e <;> simp [e]
  have ho : t.mod.outfit = s.mod.outfit := hr.outfit.resolve_right fun e => hne e.1
  refine ⟨hu, hst, h.alike.trans ?_, h1.trans h.kernel, h2⟩
  exact
    { steady := hr.steady
      state := hr.state
      lifted := congrArg (fun x => x.stc.lifted) hr.resting
      mark := congrArg Kernel.mark h1
      events := eOwn_of_resting hr.resting
      springs := congrArg Outfit.springsCounted ho
      faults := fun f hf hq => (kept_flag_eq hf hq _).run rfl (report_acts r) }

theorem Idles.sync {k s : State} (h : Idles k s) : Idles k (sync s) := by
  have q := quietly_sync s
  refine ⟨h.calm.nearly q.toNearly, h.stays.nearly q.toNearly, h.alike.trans (alike_of_quietly q), h.kernel, ?_⟩
  rw [unparkCondition_of_steady q.steady]
  exact h.unpark

theorem Idles.drain {k s : State} (hk : Planned k) (h : Idles k s) (n : Nat) : Idles k (drain n s) := by
  induction n generalizing s with
  | zero => exact h.sync
  | succ n ih =>
    unfold Machine.drain
    split
    · exact ih (h.sync.report hk (synced_of_sync (sync_idem s)) (report_of_nextReport ‹_›))
    · exact h.sync

/-- What an event leaves of a station that idles: its plan and its steps, the limit timer following its conditions. -/
theorem Idles.levels {k s : State} (hk : Planned k) (h : Idles k s) (hs : Synced s) {a : AxleParams} (ha : s.suc.axle = some a) :
    fullPlan (levels s) a = (Machine.levels s).hpl := by
  have e : fullPlan (Machine.levels s) a = fullPlan { k with hpl := (Machine.levels s).hpl } a := by
    obtain ⟨a1, a2, a3, a4, a5, a6, a7⟩ := h.alike
    obtain ⟨s1, s2, s3, s4, s5⟩ := hs
    exact fullPlan_alike (t := Machine.levels s) ⟨a1, a2, a3, a4, a5, a6, a7⟩ hk.synced ⟨s1, s2, s3, s4, s5⟩ a
  have hp : s.hpl = k.hpl := congrArg Kernel.hpl h.kernel
  have hf : fullPlan k a = k.hpl := hk.found a (by rw [← h.alike.suc, ha])
  have hz : (Machine.levels s).hpl = { fullPlan k a with limitTimer := limitTimerOf s } := by rw [hf, ← hp]; rfl
  rw [e, hz]
  exact fullPlan_fixed k a _ _ _

/-! ### The plan event that a station idles after -/

theorem kernel_takeModResult (r : ModResult) (s : State) : kernel (takeModResult r s) = { kernel s with mod := r.mod } := by
  unfold takeModResult
  dsimp only
  split <;> split <;> rfl

/-- A submission decision leaves the forced submission and the mark alone. -/
theorem kernel_submitTarget (s : State) :
    kernel (submitTarget s)
      = { kernel s with
          hpl := { s.hpl with lastSubmitted := s.hpl.pT, decreaseWait := none }
          mod := (s.mod.append s.hpl.pTop .planner
            [{ target := s.hpl.pT, rate := 0, source := .planner, clamped := s.hpl.clamped, unpark := s.stc.unparkMark }]).mod } :=
  kernel_takeModResult _ _

theorem force_decision (b : Bool) (s : State) : (submissionDecision b s).agenda.force = s.agenda.force := by
  unfold submissionDecision
  (repeat' split)
  · exact congrArg Kernel.force (kernel_submitTarget s)
  · rfl
  · rfl

/-- A plan event of a hold leaves the plan computed, but for what its submission writes (R52, R66). -/
theorem planEvent_hpl (b : Bool) {s : State} {a : AxleParams} (hst : s.stc.state = .holding ∨ s.stc.state = .secured)
    (ha : s.suc.axle = some a) :
    ∃ l w, (planEvent b s).hpl = { fullPlan s a with lastSubmitted := l, decreaseWait := w } := by
  obtain ⟨v, hv, hk, -, -⟩ := planEvent_decides b s
  obtain ⟨l, w, hd⟩ := decision_hpl b v
  have hp : v.hpl = fullPlan s a := by
    rw [show v.hpl = computedPlan s from congrArg Kernel.hpl hk, computedPlan_hold hst, ha]
    rfl
  exact ⟨l, w, by rw [hv, hd, hp]⟩

/-- A plan event of a hold leaves its plan standing (R53, R66). -/
theorem planned_planEvent (b : Bool) {s : State} (hs : Synced s) (hst : s.stc.state = .holding ∨ s.stc.state = .secured)
    (hf : s.agenda.force = false) : Planned (sync (planEvent b s)) := by
  obtain ⟨v, hv, hk, hvs, -⟩ := planEvent_decides b s
  have hsync : Synced (sync (planEvent b s)) := synced_of_sync (sync_idem _)
  have al : Alike s (sync (planEvent b s)) := alike_of_quietly ((quietly_planEvent b s).trans (quietly_sync _))
  have hvst : v.stc.state = .holding ∨ v.stc.state = .secured := by rw [hvs]; exact hst
  refine ⟨hsync, by rw [al.state]; exact hst, fun a ha => ?_, ?_, ?_⟩
  · rw [al.suc] at ha
    obtain ⟨l, w, hd⟩ := planEvent_hpl b hst ha
    have hh : (sync (planEvent b s)).hpl = { fullPlan s a with lastSubmitted := l, decreaseWait := w } := by
      rw [sync_hpl, hd]
    rw [fullPlan_alike al hs hsync a, hh]
    exact fullPlan_fixed s a l w (fullPlan s a).limitTimer
  · rw [sync_hpl, hv]
    exact planStands_decision b hvst
  · show (planEvent b s).agenda.force = false
    rw [hv, force_decision]
    exact (congrArg Kernel.force hk).trans hf

theorem drain_sync (n : Nat) (s : State) : drain n (sync s) = drain n s := by
  cases n with
  | zero => exact sync_idem s
  | succ n => rw [drain, drain, sync_idem]

end Sys2Proof.Machine
end

section
/-! PROOFS. The beginning and the end of an un-park (O41). -/

namespace Sys2Proof.Machine

set_option Elab.async false

/-! ### The target of a plan and its step (R62, R76) -/

/-- The target of a full plan is the pressure of its share, no higher than P_top (R62). -/
theorem fullPlan_pT (s : State) (a : AxleParams) :
    (fullPlan s a).pT = min (demandPressure (fullPlan s a).share (if s.stc.unparkMark then 0 else (fullPlan s a).sc)
      a.brakeGain) (fullPlan s a).pTop := by
  unfold fullPlan springStage shareStage
  split <;> split <;> rfl

/-- A PLANNER step within P_top is begun, in place of a lower one or with none in flight, or else waits alone (R76). -/
theorem append_planner {m : Mod} {p : Nat} {st : Step} (hj : m.join = .planner) (ht : st.target ≤ p) :
    ((m.append p .planner [st]).mod.inFlight.map InFlight.step = some st ∧ (m.append p .planner [st]).mod.queue = [])
      ∨ ((m.append p .planner [st]).mod.inFlight = m.inFlight ∧ (m.append p .planner [st]).mod.queue = [st]) := by
  have hc : clampStep p st = st := if_neg (by omega)
  have ha : m.append p .planner [st] = m.placePlanner st := by
    have hs : m.join.source = some .planner := by rw [hj]; rfl
    unfold Mod.append
    rw [if_pos hs]
    show m.placePlanner (clampStep p st) = m.placePlanner st
    rw [hc]
  rw [ha, Mod.placePlanner]
  split
  · exact .inl ⟨rfl, rfl⟩
  · split
    · exact .inl ⟨rfl, rfl⟩
    · exact .inr ⟨rfl, rfl⟩

/-! ### The beginning (R11) -/

theorem kernel_setPlanPending (s : State) : kernel (setPlanPending s) = kernel s := by
  unfold setPlanPending
  split
  · rfl
  · exact kernel_reformAnswers _

theorem kernel_cabReports (x : CabChange) (s : State) : kernel (cabReports x s) = kernel s := by
  unfold cabReports
  dsimp only
  split
  · exact kernel_setPlanPending s
  · rfl

/-- The mark is set at the test of the exits, and a submission forced (R11, R67). -/
def marked (s : State) : State :=
  markUnpark true { tendHandoff s with
    stc := { s.stc with unparkSpent := s.stc.unparkSpent && unparkCondition (tendHandoff s) } }

/-- In SECURED under the un-park condition, with no hand-off reason, the test of the exits sets the mark. -/
theorem testExits_marks {s : State} (hu : Undisturbed s) (hs : s.stc.state = .secured) (hr : handoffReason s = false)
    (hm : s.stc.unparkMark = false) (hp : s.stc.unparkSpent = false) (hc : unparkCondition s = true) :
    testExits s = marked s := by
  have hst : Stays s := .secured hs hr
  have hx : exitMove (tendHandoff s) = none := (hst.minor hu .tendHandoff).1.no_move (hu.minor .tendHandoff)
  have hd : deferAsk (tendHandoff s) = tendHandoff s := by
    unfold deferAsk
    rw [if_neg]
    rw [show handoffReason (tendHandoff s) = handoffReason s from rfl, hr]
    simp
  have hc' : unparkCondition (tendHandoff s) = true := hc
  have ht : testUnpark (tendHandoff s) = marked s := by
    unfold testUnpark
    dsimp only
    rw [if_pos (show (tendHandoff s).stc.state = .secured from hs),
      if_neg (by rw [show (tendHandoff s).stc.unparkMark = false from hm]; simp),
      if_pos (by rw [hc', show (tendHandoff s).stc.unparkSpent = false from hp]; rfl)]
    rfl
  rw [testExits_none hst.followLift hx, hd, ht, testService, if_neg]
  simp [marked, markUnpark, hs]

/-- The plan event is the next report of a hold that asks for it and for no test of its exits; the station idles after it. -/
theorem idles_planEvent {s : State} (hs : Synced s) (hu : Undisturbed s) (hst : Stays s)
    (hold : s.stc.state = .holding ∨ s.stc.state = .secured) (he : s.agenda.ends = []) (hy : s.agenda.yields = []) (hx : s.agenda.exits = false)
    (hp : s.agenda.plan = true) (hc : s.stc.state = .secured → s.stc.unparkMark = unparkCondition s) (n : Nat) :
    ∃ k, k = sync (planEvent s.agenda.force { s with agenda := { s.agenda with plan := false, force := false } })
      ∧ Planned k ∧ Idles k (drain (n + 1) s) := by
  refine ⟨_, rfl, ?_, ?_⟩
  · obtain ⟨h1, h2, h3, h4, h5⟩ := hs
    exact planned_planEvent _ ⟨h1, h2, h3, h4, h5⟩ hold rfl
  · have hn : nextReport (sync s)
        = some (planEvent s.agenda.force { s with agenda := { s.agenda with plan := false, force := false } }) := by
      rw [hs.sync]
      simp [nextReport, he, hu.rollaways, hu.peerAlarms, hu.abortEvent, hy, hx, hp]
    have hk : Planned (sync (planEvent s.agenda.force { s with agenda := { s.agenda with plan := false, force := false } })) := by
      obtain ⟨h1, h2, h3, h4, h5⟩ := hs
      exact planned_planEvent _ ⟨h1, h2, h3, h4, h5⟩ hold rfl
    have q : Quietly s (sync (planEvent s.agenda.force { s with agenda := { s.agenda with plan := false, force := false } })) :=
      (quietly_agenda s { s.agenda with plan := false, force := false } (.of_agenda rfl rfl rfl rfl rfl rfl)).trans
        ((quietly_planEvent _ _).trans (quietly_sync _))
    rw [drain, hn]
    dsimp only
    rw [← drain_sync]
    refine Idles.drain hk ⟨hu.nearly q.toNearly, hst.nearly q.toNearly, .refl _, rfl, ?_⟩ n
    have al := alike_of_quietly q
    rw [al.state, al.mark, unparkCondition_of_steady q.steady]
    exact hc

theorem unparkCondition_withCab {p : List Byte} {s : State} (h1 : (readCab p).driver = true) (h2 : (readCab p).park = false)
    (h3 : (readCab p).pedal = true) (h4 : (readCab p).ignition = true) : unparkCondition (withCab p s) = true := by
  show (true && (readCab p).driver && !(readCab p).park && (readCab p).pedal && (readCab p).ignition) = true
  rw [h1, h2, h3, h4]
  rfl

/-- A CAB notice under the un-park condition marks a SECURED station and submits at once (R11, R67). -/
theorem unpark_begins {p : List Byte} {s : State} (h : Settled s) (hc : Calm s) (hs : s.stc.state = .secured)
    (hm : s.stc.unparkMark = false) (hp : s.stc.unparkSpent = false) (hr : handoffReason (withCab p s) = false)
    (hu : unparkCondition (withCab p s) = true) (x : CabChange) :
    ∃ m w k, settle (cabReports x (withCab p s)) = levels w
      ∧ m.mod = s.mod ∧ m.stc.state = .secured ∧ m.stc.unparkMark = true ∧ Synced w
      ∧ k = sync (planEvent true m) ∧ Planned k ∧ Idles k w := by
  have hu0 := undisturbed_withCab (Undisturbed.of_calm hc h.1) p
  have q := quietly_cabReports x (withCab p s)
  obtain ⟨he, hy, hx, -⟩ := cabReports_asks x (withCab p s)
  have kc := kernel_cabReports x (withCab p s)
  generalize cabReports x (withCab p s) = u at q he hy hx kc ⊢
  have he : u.agenda.ends = [] := he.trans (congrArg Agenda.ends h.1)
  have hy : u.agenda.yields = [] := hy.trans (congrArg Agenda.yields h.1)
  have n := q.toNearly.trans (quietly_atExits u).toNearly
  have hw := hu0.nearly n
  have hsw : (atExits u).stc.state = .secured := (state_of_standing n.standing).trans hs
  have hrw : handoffReason (atExits u) = false := (handoffReason_of_steady n.steady).trans hr
  have hcw : unparkCondition (atExits u) = true := (unparkCondition_of_steady n.steady).trans hu
  have hx1 := testExits_marks hw hsw hrw ((congrArg (fun x => x.stc.unparkMark) n.standing).trans hm)
    ((congrArg (fun x => x.stc.unparkSpent) n.standing).trans hp) hcw
  have hd : drain reportLimit u = drain (62 + 1) (marked (atExits u)) := by
    have := nextReport_exits (s := sync u) he (hu0.nearly (q.trans (quietly_sync u)).toNearly).rollaways
      (hu0.nearly (q.trans (quietly_sync u)).toNearly).peerAlarms (hu0.nearly (q.trans (quietly_sync u)).toNearly).abortEvent
      hy
      (show (u.agenda.exits || exitValuesDiffer _ _) = true by rw [hx, Bool.true_or])
    show drain (63 + 1) u = _
    rw [drain, this, ← hx1]
    rfl
  have sy : Synced (marked (atExits u)) := by
    obtain ⟨h1, h2, h3, h4, h5⟩ := synced_of_sync (sync_idem u)
    exact ⟨h1, h2, h3, h4, h5⟩
  have hum : Undisturbed (marked (atExits u)) := by
    obtain ⟨h1, h2, h3, h4, h5, h6, h7, h8, h9⟩ := hw
    exact ⟨h1, h2, h3, h4, h5, h6, h7, h8, h9⟩
  obtain ⟨k, hk, hk1, hk2⟩ := idles_planEvent sy hum (.secured hsw hrw) (.inr hsw) (show u.agenda.ends = [] from he) hy rfl rfl
    (fun _ => hcw.symm) 62
  refine ⟨_, drain (62 + 1) (marked (atExits u)), k, ?_, ?_, ?_, ?_, synced_of_sync (drain_synced _ _), hk, hk1, hk2⟩
  · rw [settle, hd]
  · exact congrArg Kernel.mod kc
  · exact hsw
  · rfl

/-- What a forced plan event leaves in a hold: the target of the plan submitted, and its step placed (R66, R67, R76). -/
theorem planEvent_submits {m : State} (hs : m.stc.state = .holding ∨ m.stc.state = .secured) :
    (planEvent true m).hpl.lastSubmitted = (planEvent true m).hpl.pT ∧ (planEvent true m).hpl.decreaseWait = none
      ∧ (planEvent true m).mod = (m.mod.append (planEvent true m).hpl.pTop .planner
          [{ target := (planEvent true m).hpl.pT, rate := 0, source := .planner,
             clamped := (planEvent true m).hpl.clamped, unpark := m.stc.unparkMark }]).mod := by
  obtain ⟨v, hv, hk, hvs, -⟩ := planEvent_decides true m
  have hd : submissionDecision true v = submitTarget v := by
    unfold submissionDecision
    rw [if_pos (by rw [hvs]; simpa using hs)]
    rfl
  have e := kernel_submitTarget v
  have hp : (submitTarget v).hpl = { v.hpl with lastSubmitted := v.hpl.pT, decreaseWait := none } := congrArg Kernel.hpl e
  have hm : (submitTarget v).mod = _ := congrArg Kernel.mod e
  rw [hv, hd, hm, hp, ← show v.mod = m.mod from congrArg Kernel.mod hk,
    ← show v.stc.unparkMark = m.stc.unparkMark from congrArg Kernel.mark hk]
  exact ⟨rfl, rfl, rfl⟩

theorem unpark_submits {p : List Byte} {s : State} (h : Settled s) (hc : Calm s) (hs : s.stc.state = .secured)
    (hm : s.stc.unparkMark = false) (hp : s.stc.unparkSpent = false) (hr : handoffReason (withCab p s) = false)
    (hu : unparkCondition (withCab p s) = true) (hv : s.mod.parkCmd = false) (x : CabChange) :
    ∃ t, t = settle (cabReports x (withCab p s)) ∧ t.stc.state = .secured ∧ t.stc.unparkMark = true ∧ t.mod.parkCmd = false
      ∧ ∀ (a : AxleParams) (st : Step), s.suc.axle = some a → s.mod.join = .planner →
        st = { target := t.hpl.pT, rate := 0, source := .planner, clamped := t.hpl.clamped, unpark := true } →
        fullPlan t a = t.hpl ∧ t.hpl.lastSubmitted = t.hpl.pT ∧ t.hpl.decreaseWait = none
          ∧ ((t.mod.inFlight.map InFlight.step = some st ∧ t.mod.queue = [])
              ∨ (t.mod.inFlight = s.mod.inFlight ∧ t.mod.queue = [st])) := by
  obtain ⟨m, w, k, hw, hmm, hms, hmk, sw, hk, hk1, hk2⟩ := unpark_begins h hc hs hm hp hr hu x
  have q : Quietly m k := by rw [hk]; exact (quietly_planEvent true m).trans (quietly_sync _)
  have al := (alike_of_quietly q).trans hk2.alike
  have hmod : w.mod = k.mod := congrArg Kernel.mod hk2.kernel
  have hhpl : w.hpl = k.hpl := congrArg Kernel.hpl hk2.kernel
  refine ⟨_, hw.symm, al.state.trans hms, al.mark.trans hmk, ?_, fun a st ha hj hst => ?_⟩
  · show w.mod.parkCmd = false
    rw [hmod, show k.mod.parkCmd = m.mod.parkCmd from congrArg Outfit.parkCmd q.outfit, hmm, hv]
  · have hax : w.suc.axle = some a := by
      have e1 := congrArg State.suc hw
      rw [settle_suc, suc_of_steady (quietly_cabReports x (withCab p s)).steady] at e1
      exact (congrArg Suc.axle e1).symm.trans ha
    obtain ⟨h1, h2, h3⟩ := planEvent_submits (m := m) (.inr hms)
    have hf := hk2.levels hk1 sw hax
    have e4 : k.hpl = (planEvent true m).hpl := by rw [hk, sync_hpl]
    have e5 : k.mod = (planEvent true m).mod := by rw [hk, sync_mod]
    have e6 : (levels w).hpl = { k.hpl with limitTimer := limitTimerOf w } := by rw [← hhpl]; rfl
    have e7 : (levels w).mod = k.mod := hmod
    have hle : (levels w).hpl.pT ≤ (levels w).hpl.pTop := by
      rw [← hf, fullPlan_pT]
      exact Nat.min_le_right _ _
    refine ⟨hf, ?_, ?_, ?_⟩
    · rw [e6, e4]; exact h1
    · rw [e6, e4]; exact h2
    · rw [e7, e5, h3, hmm, hmk, ← e4]
      have hst' : st = { target := k.hpl.pT, rate := 0, source := .planner, clamped := k.hpl.clamped, unpark := true } := by
        rw [hst, e6]
      rw [← hst']
      refine append_planner hj ?_
      rw [hst']
      rw [e6] at hle
      exact hle

end Sys2Proof.Machine
end

section
/-! PROOFS. The chamber sample that ends the un-park step (O41). -/

namespace Sys2Proof.Machine

set_option Elab.async false

/-! ### A station that stays in HOLDING has no un-park mark -/

theorem Stays.mark_act {s t : State} (hu : Undisturbed s) (h : Stays s) (hs : s.stc.state = .holding)
    (hm : s.stc.unparkMark = false) (a : Act s t) : t.stc.unparkMark = false := by
  cases a with
  | quiet q => exact (congrArg (fun x => x.stc.unparkMark) q.standing).trans hm
  | followLift => rw [h.followLift, hm]
  | minor m _ =>
    cases m with
    | deferAsk => unfold deferAsk; split <;> exact hm
    | testUnpark =>
      unfold testUnpark
      rw [if_neg (by simp [hs])]
      exact hm
    | unparkUnreached _ _ _ h => cases hs.symm.trans h
    | _ => exact hm
  | ventService h => cases hs.symm.trans h
  | turn _ h _ => cases hs.symm.trans h
  | succeed hx _ => cases hs.symm.trans ((exchanging_iff s).1 hx).1
  | moved r _ => exact absurd r (h.no_hop hu)

theorem Stays.mark_run {s t : State} (hu : Undisturbed s) (h : Stays s) (hs : s.stc.state = .holding)
    (hm : s.stc.unparkMark = false) (r : Acts s t) : t.stc.unparkMark = false := by
  induction r with
  | refl => exact hm
  | tail r a ih =>
    obtain ⟨h1, h2, h3⟩ := h.run hu r
    exact h2.mark_act h1 (h3.state.trans hs) ih a

/-- What an event leaves of MOD's outfit in a state entered and kept out of SERVICE. -/
theorem Stays.entered_outfit {v t : State} (hu : Undisturbed v) (h : Stays v) (hs : v.stc.state ≠ .service)
    (r : Acts (Machine.afterMove v) t) : t.mod.outfit = (outputs v).mod.outfit := by
  rw [h.afterMove hu] at r
  have q := nearly_outputs v
  refine ((h.nearly q).run (hu.nearly q) r).2.2.outfit.resolve_right fun e => hs ?_
  rw [← state_of_standing q.standing]
  exact e.1

/-- HOLDING once entered and kept shows no un-park mark. -/
theorem Stays.entered_mark {v t : State} (hu : Undisturbed v) (h : Stays v) (hs : v.stc.state = .holding)
    (hm : v.stc.unparkMark = false) (r : Acts (Machine.afterMove v) t) : t.stc.unparkMark = false := by
  have q := nearly_outputs v
  rw [h.afterMove hu] at r
  exact (h.nearly q).mark_run (hu.nearly q) ((state_of_standing q.standing).trans hs)
    ((congrArg (fun x => x.stc.unparkMark) q.standing).trans hm) r

/-- The order that energises the park valve ends spring counting (R88). -/
theorem springs_outputs {s : State} (hp : parkOf s.stc.origin s.stc.state = some true) (hm : s.mod.parkCmd = false) :
    (outputs s).mod.outfit.springsCounted = false ∧ (outputs s).mod.outfit.springTimer = none := by
  have ho : (parkForState s).mod.outfit.springsCounted = false ∧ (parkForState s).mod.outfit.springTimer = none := by
    have e : (parkForState s).mod = s.mod.energisePark s.now := by
      unfold parkForState
      rw [hp]
      show s.mod.orderPark true s.suc.axle s.now = _
      rw [Mod.orderPark, if_neg (by rw [hm]; simp), if_pos rfl]
    rw [e]
    exact ⟨rfl, rfl⟩
  rw [outfit_outputs, joinForState, show (joinTo _ (parkForState s)).mod = _ from takeModResult_mod _ _, Mod.outfit_joinTo]
  exact ho

/-! ### The step that ends (R80) -/

/-- A step in its band for the in-band time, with time left, ends REACHED (R80, R83). -/
theorem evaluate_reached {m : Mod} {f : InFlight} (hf : m.inFlight = some f) (ht : f.elapsed < f.allowed)
    (hr : movedReference f = f.step.target) (hj : m.join ≠ .alarm) (hd : distance f.step.target m.pMeas ≤ 15)
    (hb : f.inBand.any (fun n => decide (60 ≤ n)) = true) :
    m.evaluate = { mod := m.moveOn (evaluated m.join m.pMeas f)
                   ended := some ((evaluated m.join m.pMeas f).ending .reached m.pMeas) } := by
  obtain ⟨n, hn, hb⟩ : ∃ n, f.inBand = some n ∧ 60 ≤ n := by
    cases hi : f.inBand with
    | none => simp [hi] at hb
    | some n => exact ⟨n, rfl, by simpa [hi] using hb⟩
  have hband : inBandNow m.join f.step.target f.step.target m.pMeas = true := by
    unfold inBandNow
    rw [if_neg hj]
    exact Bool.and_eq_true_iff.2 ⟨decide_eq_true rfl, decide_eq_true hd⟩
  have he : evaluated m.join m.pMeas f
      = { f with highest := max f.highest m.pMeas, intermediate := f.step.target, inBand := some n } := by
    unfold evaluated
    dsimp only
    rw [hr, hband, if_pos rfl, hn]
    rfl
  unfold Mod.evaluate
  rw [hf]
  dsimp only
  rw [he]
  dsimp only
  rw [if_neg (by omega), if_pos (by simp [inBandTime, hb])]

/-! ### The plan of a chamber sample -/

/-- The state in which a chamber sample computes: the pressure taken, the limit timer run (R64, R69). -/
def sampled (p : Nat) (s : State) : State := runLimitTimer { s with mod := { s.mod with pMeas := p } }

theorem synced_sampled {p : Nat} {s : State} (h : Synced s) : Synced (sampled p s) := by
  obtain ⟨h1, h2, h3, h4, h5⟩ := h
  exact ⟨h1, h2, h3, h4, h5⟩

theorem takePressure_eq {p : Nat} {s : State} (h : Synced s) :
    takePressure p s
      = askRamp (takeModResult (planEvent false (sampled p s)).mod.evaluate (planEvent false (sampled p s))) := by
  show askRamp (takeModResult (planEvent false (sync (sampled p s))).mod.evaluate (planEvent false (sync (sampled p s)))) = _
  rw [(synced_sampled h).sync]

theorem exec_chamberPressureSample {raw : BitVec 12} {s : State} (hlo : 40 ≤ raw.toNat) (hhi : raw.toNat ≤ 4055) :
    exec (.chamberPressureSample raw) s = .next (settle (takePressure (pressureOfRaw raw) s)) := by
  have hraw : pressureRawBad raw = false := by
    unfold pressureRawBad
    rw [decide_eq_false (by omega), decide_eq_false (by omega)]
    rfl
  show Host.Outcome.next (settle (if pressureRawBad raw = true then _ else _)) = _
  rw [if_neg (by simp [hraw])]

/-- The pressure enters the achieved force alone, and the target not at all (R62, R63). -/
theorem fullPlan_sampled (p : Nat) (s : State) (a : AxleParams) :
    (fullPlan (sampled p s) a).pT = (fullPlan s a).pT ∧ (fullPlan (sampled p s) a).lastSubmitted = s.hpl.lastSubmitted := by
  have late (u : State) (x : Plan) :
      (springStage u a (achievedStage u a x)).pT = x.pT
      ∧ (springStage u a (achievedStage u a x)).lastSubmitted = x.lastSubmitted := by
    unfold springStage
    split <;> exact ⟨rfl, rfl⟩
  have stages (x : Plan) (z : Timer) :
      demandStage (sampled p s) a { x with limitTimer := z } = { demandStage s a x with limitTimer := z }
        ∧ capacityStage (sampled p s) a { x with limitTimer := z } = { capacityStage s a x with limitTimer := z }
        ∧ targetStage (sampled p s) a { x with limitTimer := z } = { targetStage s a x with limitTimer := z } :=
    ⟨rfl, rfl, rfl⟩
  have share (x : Plan) (z : Timer) :
      shareStage (sampled p s) { x with limitTimer := z } = { shareStage s x with limitTimer := z } := by
    unfold shareStage
    rw [show isolatedMode (sampled p s) = isolatedMode s from rfl]
    split <;> rfl
  have submitted (x : Plan) : (shareStage s x).lastSubmitted = x.lastSubmitted := by
    unfold shareStage
    split <;> rfl
  have hz : (sampled p s).hpl = { s.hpl with limitTimer := (sampled p s).hpl.limitTimer } := rfl
  obtain ⟨l1, l2⟩ := late (sampled p s)
    (targetStage (sampled p s) a (shareStage (sampled p s) (capacityStage (sampled p s) a
      (demandStage (sampled p s) a (sampled p s).hpl))))
  obtain ⟨l3, -⟩ := late s (targetStage s a (shareStage s (capacityStage s a (demandStage s a s.hpl))))
  unfold fullPlan
  rw [l1, l2, l3, hz, (stages _ _).1, (stages _ _).2.1, share, (stages _ _).2.2]
  exact ⟨rfl, submitted _⟩

/-- A computation at a chamber sample that asks for no higher target submits nothing (R66). -/
theorem sampled_submits_nothing {p : Nat} {s : State} {a : AxleParams} (hs : s.stc.state = .holding ∨ s.stc.state = .secured)
    (ha : s.suc.axle = some a) (hp : (fullPlan s a).pT < s.hpl.lastSubmitted + 10) :
    (planEvent false (sampled p s)).mod = { s.mod with pMeas := p }
      ∧ (planEvent false (sampled p s)).agenda.ends = s.agenda.ends := by
  obtain ⟨v, hv, hk, -, he⟩ := planEvent_decides false (sampled p s)
  have hplan : v.hpl = fullPlan (sampled p s) a := by
    rw [show v.hpl = computedPlan (sampled p s) from congrArg Kernel.hpl hk, computedPlan_hold (s := sampled p s) hs,
      show (sampled p s).suc.axle = some a from ha]
    rfl
  obtain ⟨h1, h2⟩ := fullPlan_sampled p s a
  have hr : targetRises v.hpl = false := by
    rw [targetRises, hplan, h1, h2]
    exact decide_eq_false (by omega)
  have hd : (submissionDecision false v).mod = v.mod ∧ (submissionDecision false v).agenda = v.agenda := by
    unfold submissionDecision
    rw [hr]
    split <;> exact ⟨rfl, rfl⟩
  rw [hv, hd.1, hd.2]
  exact ⟨congrArg Kernel.mod hk, he⟩

/-- A sampled station that nothing disturbed is undisturbed after its computation. -/
theorem undisturbed_sampled {p : Nat} {s : State} (h : Undisturbed s) : Undisturbed (planEvent false (sampled p s)) := by
  have h0 : Undisturbed (sampled p s) := by
    obtain ⟨h1, h2, h3, h4, h5, h6, h7, h8, h9⟩ := h
    exact ⟨h1, h2, h3, h4, h5, h6, h7, h8, h9⟩
  exact h0.nearly (quietly_planEvent false _).toNearly

/-- The result of a step that ends is taken to the agenda (R85). -/
theorem takeModResult_ended {r : ModResult} {e : StepEnd} {s : State} (hr : r.ended = some e) (ho : e.outcome = .reached)
    (hv : r.overrun = false) :
    takeModResult r s = { s with mod := r.mod, agenda := { s.agenda with ends := s.agenda.ends ++ [e] } } := by
  unfold takeModResult
  simp [hr, ho, hv]

/-- HPL, HOE and RSQ take the end of a PLANNER step quietly. -/
theorem quietly_noteEnd {e : StepEnd} (he : e.source = .planner) (s : State) : Quietly s (noteEnd e s) := by
  have hc (u : State) : countRampStep e u = u := by
    have : e.profileEnd = false := by simp [StepEnd.profileEnd, he]
    simp [countRampStep, this]
  have ask (u : State) : Quietly u (askPlan (askExits (askAnswers (askRamp u)))) :=
    quietly_agenda _ _ (.of_agenda rfl rfl rfl rfl rfl rfl)
  unfold noteEnd
  rw [hc]
  exact (quietly_limitedByEnd e s).trans (ask _)

/-- The REACHED end of the marked step takes a SECURED station to HOLDING, which it keeps (R12). -/
theorem unpark_ends {e : StepEnd} {u : State} (he : e.source = .planner) (ho : e.outcome = .reached) (hm : e.unpark = true)
    (hends : u.agenda.ends = [e]) (hu : Undisturbed { u with agenda := { u.agenda with ends := [] } })
    (hs : u.stc.state = .secured) (hk : u.stc.unparkMark = true) (hc : securing u = false) (hr : handoffReason u = false) :
    ∃ v, Nearly { u with agenda := { u.agenda with ends := [] } } v ∧ v.mod.outfit = u.mod.outfit
      ∧ Undisturbed (enterState .holding v) ∧ Stays (enterState .holding v)
      ∧ Acts (afterMove (enterState .holding v)) (settle u) := by
  have hn : nextReport (sync u) = some (takeEnd e (sync { u with agenda := { u.agenda with ends := [] } })) := by
    have hends' : (sync u).agenda.ends = [e] := hends
    unfold nextReport
    simp only [hends']
    rfl
  have q := (quietly_sync { u with agenda := { u.agenda with ends := [] } }).trans (quietly_noteEnd he _)
  have r := settle_first hn
  have hst : (noteEnd e (sync { u with agenda := { u.agenda with ends := [] } })).stc.state = .secured :=
    (state_of_standing q.standing).trans hs
  have hmk : (noteEnd e (sync { u with agenda := { u.agenda with ends := [] } })).stc.unparkMark = true :=
    (congrArg (fun x => x.stc.unparkMark) q.standing).trans hk
  have ht : takeEnd e (sync { u with agenda := { u.agenda with ends := [] } })
      = moveTo .holding (noteEnd e (sync { u with agenda := { u.agenda with ends := [] } })) := by
    rw [takeEnd_eq, takeUnparkEnd, if_pos (by simp [hst, hmk, he, hm]), ho]
  rw [ht] at r
  have hv := hu.nearly q.toNearly
  refine ⟨_, q.toNearly, q.outfit, hv.enterState .holding (by simp), .holding rfl ?_ ?_, r⟩
  · rw [securing_of_steady (steady_enterState _ _), securing_of_steady q.steady]
    exact hc
  · rw [handoffReason_of_steady (steady_enterState _ _), handoffReason_of_steady q.steady]
    exact hr

/-- Settles O41: the mark and its step at the first test of the exits, kept by what follows; the end of the step is the first
report of its sample. -/
theorem unparkBegins : Obligations.UnparkBegins := by
  refine ⟨?_, ?_⟩
  · intro p s h hc hl hp hs hi hm hsp hv hb h1 h2 h3 h4
    have hne : s.stc.state ≠ .alarm := by simp [hs]
    obtain ⟨t, ht, e1, e2, e3, e4⟩ := unpark_submits h hc hs hm hsp (no_handoffReason hi hb).2
      (unparkCondition_withCab h1 h2 h3 h4) hv (cabChange (cabNow s) (readCab p))
    refine ⟨t, by rw [exec_cabNotice_of_ne hl hp hne, ht], e1, e2, e3, fun a st ha hj hst => ?_⟩
    obtain ⟨f1, f2, f3, f4⟩ := e4 a st ha hj hst
    refine ⟨f1, ?_, f2, f3, f4⟩
    have := fullPlan_pT t a
    rwa [f1, e2, if_pos rfl] at this
  · intro raw s f a h hc hlo hhi hs hm hv hsec hr hj hq hf hsrc hun hel href hd hb ha hpt
    obtain ⟨m1, m2⟩ := sampled_submits_nothing (p := pressureOfRaw raw) (.inr hs) ha hpt
    have hu := undisturbed_sampled (p := pressureOfRaw raw) (Undisturbed.of_calm hc h.1)
    have q := quietly_planEvent false (sampled (pressureOfRaw raw) s)
    have hev := evaluate_reached (m := { s.mod with pMeas := pressureOfRaw raw }) hf hel href (by simp [hj]) hd hb
    refine ⟨_, exec_chamberPressureSample hlo hhi, ?_⟩
    rw [takePressure_eq h.agree.toSynced, m1, hev, takeModResult_ended rfl rfl rfl, m2,
      show s.agenda.ends = [] from congrArg Agenda.ends h.1, List.nil_append]
    generalize planEvent false (sampled (pressureOfRaw raw) s) = c at hu q
    have hcs : c.stc.state = .secured := (state_of_standing q.standing).trans hs
    obtain ⟨v, n, ho, hv', hst, r⟩ := unpark_ends (e := (evaluated s.mod.join (pressureOfRaw raw) f).ending .reached (pressureOfRaw raw))
      (u := askRamp { c with
        mod := Mod.moveOn (evaluated s.mod.join (pressureOfRaw raw) f) { s.mod with pMeas := pressureOfRaw raw }
        agenda := { c.agenda with ends := [(evaluated s.mod.join (pressureOfRaw raw) f).ending .reached (pressureOfRaw raw)] } })
      hsrc rfl hun rfl
      (by obtain ⟨h1, h2, h3, h4, h5, h6, h7, h8, h9⟩ := hu
          exact ⟨h1, h2, by simp, h4, h5, h6, h7, h8, h9⟩)
      hcs ((congrArg (fun x => x.stc.unparkMark) q.standing).trans hm) ((securing_of_steady q.steady).trans hsec)
      ((handoffReason_of_steady q.steady).trans hr)
    have e := hst.entered hv' r
    have hvs : v.stc.state = .secured := (state_of_standing n.standing).trans hcs
    have hn : isHoldEntry v.stc.state .holding = false := by rw [hvs]; rfl
    have hpk : v.mod.parkCmd = false := by
      refine (congrArg Outfit.parkCmd ho).trans ?_
      exact (congrArg Outfit.parkCmd (Mod.outfit_moveOn _ _)).trans hv
    obtain ⟨g1, g2⟩ := springs_outputs (s := enterState .holding v) rfl hpk
    have g := hst.entered_outfit hv' (by simp) r
    refine ⟨state_of_resting e.resting, e.park _ rfl, hst.entered_mark hv' rfl rfl r, e.join, (congrArg Outfit.springsCounted g).trans g1,
      (congrArg Outfit.springTimer g).trans g2, (holdTimer_of_resting e.resting).trans ?_,
      (holdEntryTime_of_resting e.resting).trans ?_,
      (eOwn_of_resting e.resting).trans ((counts_enterState hn).1.trans ?_)⟩
    · show holdTimerAt v.stc.state .holding (v.suc.vehicle.holdLimit * 1000) v.stc.holdTimer = _
      have hsuc : v.suc = s.suc := (suc_of_steady n.steady).trans (show c.suc = (sampled (pressureOfRaw raw) s).suc from suc_of_steady q.steady)
      rw [hvs, hsuc]
      rfl
    · rw [holdEntryTime_enterState, hvs]
      refine (congrArg (fun x => x.stc.holdEntryTime) n.standing).trans ?_
      exact congrArg (fun x => x.stc.holdEntryTime) q.standing
    · refine (congrArg (fun x => x.crm.eOwn) n.standing).trans ?_
      exact congrArg (fun x => x.crm.eOwn) q.standing

end Sys2Proof.Machine
end

section
/-! PROOFS. What stays of a station that came back to its hold (`InHold`), and the timers of RSQ (O51). -/

namespace Sys2Proof.Machine

set_option Elab.async false

/-! ### A station in its hold, or on the way out of it -/

/-- What nothing writes in a hold but an abort, a hold entry and a completed release. -/
structure HoldView where
  entryTime : Word32
  rsq : Rsq
  counts : Int × Int × Int
  events : Nat

/-- RSQ without what its conditions and its ramp write in a hold. -/
def blankRsq (r : Rsq) : Rsq := { r with driveOffTimer := none, lapseTimer := none, rampSteps := 0 }

def holdView (s : State) : HoldView :=
  { entryTime := s.stc.holdEntryTime
    rsq := blankRsq s.rsq
    counts := (s.crm.left, s.crm.right, s.crm.d)
    events := s.crm.eOwn }

/-- A station in a hold, in an exchange that nothing has answered, or in ALARM or FAILED after it. -/
structure InHold (v : HoldView) (s : State) : Prop where
  state : s.stc.state = .holding ∨ s.stc.state = .secured ∨ s.stc.state = .leaving ∨ s.stc.state = .alarm
    ∨ s.stc.state = .failed
  asking : s.stc.state = .leaving → s.hoe.phase = .exchange ∧ s.hoe.replies = Table.fill none
  view : holdView s = v
  unlocked : s.hpl.planLock = false
  status : s.lnk.statusPending = true

/-- A change of state between a hold and what it leads to leaves the view as it is (R9, R94, R123). -/
theorem holdView_enterState {s : State} {t : StationState} (h1 : s.stc.state ≠ .releasing) (h2 : s.stc.state ≠ .free)
    (h3 : s.stc.state ≠ .standstill) (ht : t ≠ .releasing) : holdView (enterState t s) = holdView s := by
  obtain ⟨c1, c2, c3, -, c4⟩ := counts_enterState (s := s) (t := t) (by simp [isHoldEntry, h3])
  have c5 : (enterState t s).stc.holdEntryTime = s.stc.holdEntryTime := by
    rw [holdEntryTime_enterState, if_neg]
    simp [isHoldEntry, isReentry, h1, h2, h3]
  have c6 : blankRsq (enterState t s).rsq = blankRsq s.rsq := by
    show blankRsq (s.rsq.enter s.stc.state t _ _) = _
    unfold Rsq.enter
    simp only [if_neg h1, if_neg h2, if_neg ht]
    split <;> rfl
  unfold holdView
  rw [c1, c2, c3, c4, c5, c6]

section

variable {v : HoldView} {s : State} (h : InHold v s)

include h

theorem InHold.ne {x : StationState} (h1 : x ≠ .holding) (h2 : x ≠ .secured) (h3 : x ≠ .leaving) (h4 : x ≠ .alarm)
    (h5 : x ≠ .failed) : s.stc.state ≠ x := by
  rintro rfl
  rcases h.state with h | h | h | h | h
  exacts [h1 h, h2 h, h3 h, h4 h, h5 h]

theorem InHold.enterState {t : StationState} (ht : t = .holding ∨ t = .secured ∨ t = .alarm ∨ t = .failed) :
    InHold v (enterState t s) where
  state := by rcases ht with rfl | rfl | rfl | rfl <;> simp [Machine.enterState, Stc.enter]
  asking := fun (e : t = .leaving) => by rcases ht with rfl | rfl | rfl | rfl <;> cases e
  view := by
    refine (holdView_enterState ?_ ?_ ?_ ?_).trans h.view
    · exact h.ne (by simp) (by simp) (by simp) (by simp) (by simp)
    · exact h.ne (by simp) (by simp) (by simp) (by simp) (by simp)
    · exact h.ne (by simp) (by simp) (by simp) (by simp) (by simp)
    · rcases ht with rfl | rfl | rfl | rfl <;> simp
  unlocked := by
    show decide (t = .releasing) = false
    rcases ht with rfl | rfl | rfl | rfl <;> rfl
  status := rfl

theorem InHold.takeAlarmCause (c : AlarmCause) : InHold v (takeAlarmCause c s) := by
  obtain ⟨h1, h2, h3, h4, h5⟩ := h
  unfold Machine.takeAlarmCause
  split
  · refine InHold.enterState (t := .alarm) ?_ (by simp)
    exact ⟨h1, h2, h3, h4, h5⟩
  · exact ⟨h1, h2, h3, h4, h5⟩

end

/-- A leaver that returns is in its hold again, whatever its exchange has become. -/
theorem InHold.returnToOrigin {v : HoldView} {s : State} (hs : s.stc.state = .leaving) (hv : holdView s = v) :
    InHold v (returnToOrigin s) := by
  have first (o : HoldState) : InHold v (Machine.enterState o.toState s) := by
    refine ⟨by cases o <;> simp [Machine.enterState, Stc.enter, HoldState.toState], fun e => ?_, ?_, ?_, rfl⟩
    · have e : o.toState = .leaving := e
      cases o <;> cases e
    · refine (holdView_enterState ?_ ?_ ?_ ?_).trans hv
      · simp [hs]
      · simp [hs]
      · simp [hs]
      · cases o <;> simp [HoldState.toState]
    · show decide (o.toState = .releasing) = false
      cases o <;> rfl
  unfold Machine.returnToOrigin
  dsimp only
  split
  · exact (first _).enterState (by simp)
  · exact first _

theorem InHold.hop {v : HoldView} {s t : State} (h : InHold v s) (r : Hop s t) : InHold v t := by
  have no (x : StationState) (h1 : x ≠ .holding) (h2 : x ≠ .secured) (h3 : x ≠ .leaving) (h4 : x ≠ .alarm)
      (h5 : x ≠ .failed) : s.stc.state ≠ x := h.ne h1 h2 h3 h4 h5
  have releasing : s.stc.state ≠ .releasing := no _ (by simp) (by simp) (by simp) (by simp) (by simp)
  have standing : s.stc.state ≠ .standstill := no _ (by simp) (by simp) (by simp) (by simp) (by simp)
  have free : s.stc.state ≠ .free := no _ (by simp) (by simp) (by simp) (by simp) (by simp)
  have service : s.stc.state ≠ .service := no _ (by simp) (by simp) (by simp) (by simp) (by simp)
  have offline : s.stc.state ≠ .offline := no _ (by simp) (by simp) (by simp) (by simp) (by simp)
  have hu := h
  obtain ⟨h1, h2, h3, h4, h5⟩ := h
  cases r with
  | goto x hm =>
    refine hu.enterState ?_
    cases exitMove_goto hm with
    | startsStanding hs | startsFree hs => exact absurd hs offline
    | serves hs => exact hs.elim (fun hs => absurd hs free) (fun hs => absurd hs standing)
    | stands hs => exact hs.elim (fun hs => absurd hs free) (fun hs => absurd hs service)
    | lifts hs | holds hs => exact absurd hs standing
    | resumes hs => exact absurd hs service
    | fails _ _ | secures _ _ => simp
  | peerShows n _ => exact hu.takeAlarmCause _
  | peerAlarm n rest _ _ =>
    exact InHold.takeAlarmCause (s := { s with agenda := { s.agenda with peerAlarms := rest } }) ⟨h1, h2, h3, h4, h5⟩ _
  | rollaway r rest _ ha =>
    rw [takeRollaway, if_pos ha]
    refine InHold.enterState (t := .alarm) ?_ (by simp)
    exact ⟨h1, h2, h3, h4, h5⟩
  | exchange _ =>
    exact ⟨by simp [startExchange, placeHandoff, Stc.enter], fun _ => ⟨rfl, rfl⟩,
      (holdView_enterState (s := { s with hoe := s.hoe.startExchange }) releasing free standing (by simp)).trans h3, rfl, rfl⟩
  | withdraw hm => exact InHold.returnToOrigin ((exchanging_iff s).1 (exitMove_withdraw hm).1).1 h3
  | yield _ _ _ hx => exact InHold.returnToOrigin ((exchanging_iff s).1 hx).1 h3
  | unparked _ _ _ _ hs =>
    refine InHold.enterState (t := .holding) ?_ (by simp)
    exact ⟨h1, h2, h3, h4, h5⟩
  | rampOver hs hp _ =>
    have := (h2 hs).1
    simp [hp] at this
  | released hs _ _ | reheldAtOnce hs _ _ _ => exact absurd hs releasing
  | reheld _ hr =>
    have := (reholds_iff s).1 hr
    exact absurd this.1 free
  | aborted _ hr _ | abortedByPeer _ hr => exact absurd ((releaseInProgress_iff s).1 hr).1 releasing

theorem InHold.minor {v : HoldView} {s t : State} (h : InHold v s) (m : Minor s t) : InHold v t := by
  have releasing : s.stc.state ≠ .releasing := h.ne (by simp) (by simp) (by simp) (by simp) (by simp)
  obtain ⟨h1, h2, h3, h4, h5⟩ := h
  cases m with
  | tendHandoff =>
    refine ⟨h1, fun hs => ⟨?_, (h2 hs).2⟩, h3, h4, h5⟩
    have hp := (h2 hs).1
    simp [tendHandoff, hp]
  | deferAsk =>
    unfold deferAsk
    split
    · rename_i hd
      simp only [Bool.and_eq_true, Bool.or_eq_true, decide_eq_true_eq] at hd
      refine ⟨h1, fun hs => ?_, h3, h4, h5⟩
      rcases hd.1.1.1.1 with e | e <;> cases e.symm.trans hs
    · exact ⟨h1, h2, h3, h4, h5⟩
  | testUnpark => unfold testUnpark; dsimp only; (repeat' split) <;> exact ⟨h1, h2, h3, h4, h5⟩
  | turn _ hs _ => exact absurd hs releasing
  | succeed hx hs =>
    have := exchangeSucceeds_of_no_replies (h2 ((exchanging_iff s).1 hx).1).2
    simp [this] at hs
  | countRampStep e _ =>
    refine ⟨h1, h2, ?_, h4, h5⟩
    rw [← h3]
    unfold countRampStep
    dsimp only
    (repeat' split) <;> rfl
  | _ => exact ⟨h1, h2, h3, h4, h5⟩

theorem kept_inHold (v : HoldView) : Kept (InHold v) where
  nearly := fun s t h q => by
    have e0 := state_of_standing q.standing
    refine ⟨by rw [e0]; exact h.state, fun hs => ?_, ?_, ?_, q.status h.status⟩
    · obtain ⟨h1, h2⟩ := h.asking (e0.symm.trans hs)
      exact ⟨(congrArg (fun x => x.hoe.phase) q.standing).trans h1, (congrArg (fun x => x.hoe.replies) q.standing).trans h2⟩
    · rw [← h.view]
      have e1 : blankRsq t.rsq = blankRsq s.rsq := congrArg (fun x => blankRsq x.rsq) q.standing
      have e2 : t.stc.holdEntryTime = s.stc.holdEntryTime := congrArg (fun x => x.stc.holdEntryTime) q.standing
      have e3 : (t.crm.left, t.crm.right, t.crm.d) = (s.crm.left, s.crm.right, s.crm.d) :=
        congrArg (fun x => (x.crm.left, x.crm.right, x.crm.d)) q.standing
      have e4 : t.crm.eOwn = s.crm.eOwn := congrArg (fun x => x.crm.eOwn) q.standing
      unfold holdView
      rw [e1, e2, e3, e4]
    · exact (congrArg Standing.planLock q.standing).trans h.unlocked
  followLift := fun s h => by
    obtain ⟨h1, h2, h3, h4, h5⟩ := h
    unfold followLift
    split <;> exact ⟨h1, h2, h3, h4, h5⟩
  hop := fun _ _ h r => h.hop r
  minor := fun _ _ h m => h.minor m

end Sys2Proof.Machine
end

section
/-! PROOFS. The abort of a release, and the timers of RSQ (O51). -/

namespace Sys2Proof.Machine

set_option Elab.async false

/-! ### An aborted release (R132) -/

theorem rsq_abortedBy (why : AbortReason) {s : State} (hs : s.stc.state = .releasing) :
    (abortedBy why s).rsq = s.rsq.abort why := by
  show (s.rsq.abort why).enter s.stc.state .holding (cabNow s).gear.move s.crm.d = _
  rw [hs]
  rfl

theorem counts_abortedBy (why : AbortReason) {s : State} (hs : s.stc.state = .releasing) :
    (abortedBy why s).crm.eOwn = satInc 7 s.crm.eOwn :=
  (counts_enterState (s := countCreep { s with rsq := s.rsq.abort why }) (by
    show isHoldEntry s.stc.state .holding = false
    rw [hs]
    rfl)).1

theorem inHold_abortedBy (why : AbortReason) (s : State) : InHold (holdView (abortedBy why s)) (abortedBy why s) :=
  ⟨.inl rfl, fun (e : StationState.holding = .leaving) => (by cases e), rfl, rfl, rfl⟩

/-- What an abort leaves at the end of its event, whatever state the chain leads to (R132). -/
theorem aborted_view {why : AbortReason} {s t : State} (hs : s.stc.state = .releasing)
    (r : Acts (afterMove (abortedBy why s)) t) (ht : Settled t) :
    (t.rsq.abortFlag = true ∧ t.rsq.abortFlagTimer = some 1000 ∧ t.rsq.lastAbort = some why
      ∧ t.rsq.abortCount = satInc 65535 s.rsq.abortCount ∧ t.rsq.phase = .idle ∧ t.rsq.entryGear = none
      ∧ t.rsq.turnTimer = none ∧ t.rsq.lapseTimer = none) ∧ t.stc.state ≠ .releasing ∧ t.hpl.planLock = false
      ∧ t.crm.eOwn = satInc 7 s.crm.eOwn ∧ t.lnk.statusPending = true := by
  have k := kept_inHold (holdView (abortedBy why s))
  have h := k.run (k.afterMove (inHold_abortedBy why s)) r
  have hr : t.stc.state ≠ .releasing := h.ne (by simp) (by simp) (by simp) (by simp) (by simp)
  have hq : blankRsq t.rsq = blankRsq (s.rsq.abort why) := by
    rw [← rsq_abortedBy why hs]
    exact congrArg HoldView.rsq h.view
  have hl : t.rsq.lapseTimer = none := by
    rw [← ht.agree.lapse, lapseTimerOf, show releaseInProgress t = false by simp [releaseInProgress, hr]]
    rfl
  refine ⟨⟨congrArg Rsq.abortFlag hq, congrArg Rsq.abortFlagTimer hq, congrArg Rsq.lastAbort hq, congrArg Rsq.abortCount hq,
    congrArg Rsq.phase hq, congrArg Rsq.entryGear hq, congrArg Rsq.turnTimer hq, hl⟩, hr, h.unlocked, ?_, h.status⟩
  exact (congrArg HoldView.events h.view).trans (counts_abortedBy why hs)

/-- A hold begun again, in an undisturbed station that nothing asks out of it (R13, R9). -/
theorem entered_holding {v t : State} (hu : Undisturbed (enterState .holding v)) (hs : v.stc.state = .releasing ∨ v.stc.state = .free)
    (hc : securing v = false) (hr : handoffReason v = false) (r : Acts (afterMove (enterState .holding v)) t) :
    t.stc.state = .holding ∧ t.mod.join = .planner ∧ t.mod.parkCmd = true
      ∧ t.stc.holdTimer = some (v.suc.vehicle.holdLimit * 1000) ∧ t.stc.holdEntryTime = v.now
      ∧ resting t = resting (enterState .holding v) := by
  have hst : Stays (enterState .holding v) := by
    refine .holding rfl ?_ ?_
    · rw [securing_of_steady (steady_enterState _ _), hc]
    · rw [handoffReason_of_steady (steady_enterState _ _), hr]
  have e := hst.entered hu r
  refine ⟨state_of_resting e.resting, e.join, e.park _ rfl, (holdTimer_of_resting e.resting).trans ?_,
    (holdEntryTime_of_resting e.resting).trans ?_, e.resting⟩
  · show holdTimerAt v.stc.state .holding (v.suc.vehicle.holdLimit * 1000) v.stc.holdTimer = _
    rcases hs with hs | hs <;> rw [hs] <;> rfl
  · rw [holdEntryTime_enterState, if_pos]
    rcases hs with hs | hs <;> rw [hs] <;> rfl

/-- The abort of a release that was under way in `s`, found in `w` with what the abort reads as it was (R132). -/
theorem aborts_of_acts {why : AbortReason} {s w t : State} (hs : w.stc.state = .releasing) (hu : Undisturbed w)
    (hn : w.rsq.abortCount = s.rsq.abortCount) (he : w.crm.eOwn = s.crm.eOwn) (hsuc : w.suc = s.suc) (hnow : w.now = s.now)
    (hc : securing w = securing s) (hr : handoffReason w = handoffReason s)
    (r : Acts (afterMove (abortedBy why w)) t) (ht : Settled t) : Aborts why s t := by
  obtain ⟨⟨h1, h2, h3, h4, h5, h6, h7, h8⟩, h9, h10, h11, h12⟩ := aborted_view hs r ht
  refine ⟨h1, h2, h3, by rw [h4, hn], h5, h6, h7, h8, h9, h10, by rw [h11, he], h12, fun k1 k2 => ?_⟩
  have hv : Undisturbed (abortedBy why w) := by
    have h0 : Undisturbed (countCreep { w with rsq := w.rsq.abort why }) := by
      obtain ⟨h1, h2, h3, h4, h5, h6, h7, h8, h9⟩ := hu
      exact ⟨h1, h2, h3, h4, h5, h6, h7, h8, h9⟩
    exact h0.enterState .holding (by simp)
  obtain ⟨e1, e2, e3, e4, e5, -⟩ := entered_holding hv (.inl hs) (hc.trans k1) (hr.trans k2) r
  refine ⟨e1, e2, e3, e4.trans ?_, e5.trans hnow⟩
  show some (w.suc.vehicle.holdLimit * 1000) = _
  rw [hsuc]

/-! ### The lapse timer (R130) -/

theorem exec_lapseTimerExpiry {s : State} (hs : s.stc.state = .releasing) (hp : s.rsq.phase ≠ .idle)
    (h : s.rsq.lapseTimer.isSome = true) :
    exec .lapseTimerExpiry s = .next (settle (afterMove (abortedBy .lapse s))) := by
  have h1 : execLapseTimerExpiry s = _ := congrArg Host.Outcome.next (if_pos h)
  rw [show exec .lapseTimerExpiry s = _ from h1]
  rw [if_pos ((releaseInProgress_iff s).2 ⟨hs, hp⟩), abortRelease_eq]

/-! ### The abort flag timer (R132) -/

/-- Out of RELEASING the abort flag stays clear. -/
structure Unflagged (s : State) : Prop where
  state : s.stc.state ≠ .releasing
  flag : s.rsq.abortFlag = false
  timer : s.rsq.abortFlagTimer = none

section

variable {s : State} (h : Unflagged s)

include h

theorem Unflagged.enterState {t : StationState} (ht : t ≠ .releasing) : Unflagged (enterState t s) := by
  obtain ⟨e1, e2, -, -⟩ := Rsq.abort_enter s.stc.state t (cabNow s).gear.move s.crm.d s.rsq
  exact ⟨ht, e1.trans h.flag, e2.trans h.timer⟩

theorem Unflagged.takeAlarmCause (c : AlarmCause) : Unflagged (takeAlarmCause c s) := by
  obtain ⟨h1, h2, h3⟩ := h
  unfold Machine.takeAlarmCause
  split
  · refine Unflagged.enterState (t := .alarm) ?_ (by simp)
    exact ⟨h1, h2, h3⟩
  · exact ⟨h1, h2, h3⟩

theorem Unflagged.returnToOrigin : Unflagged (returnToOrigin s) := by
  have ho : (s.stc.origin.getD .holding).toState ≠ .releasing := by
    cases s.stc.origin.getD .holding <;> simp [HoldState.toState]
  unfold Machine.returnToOrigin
  dsimp only
  split
  · exact (h.enterState ho).enterState (by simp)
  · exact h.enterState ho

theorem Unflagged.followLift : Unflagged (followLift s) := by
  obtain ⟨h1, h2, h3⟩ := h
  unfold Machine.followLift
  split <;> exact ⟨h1, h2, h3⟩

theorem Unflagged.rampOver : Unflagged (rampOver s) := by
  have h0 : Unflagged { s with hoe := { s.hoe with phase := .idle, replies := Table.fill none } } :=
    ⟨h.state, h.flag, h.timer⟩
  unfold Machine.rampOver
  dsimp only
  split
  · exact h0.enterState (by simp)
  · obtain ⟨h1, h2, h3⟩ := h0.enterState (t := .free) (by simp)
    exact ⟨h1, h2, h3⟩

theorem Unflagged.hop {t : State} (r : Hop s t) : Unflagged t := by
  have hu := h
  obtain ⟨h1, h2, h3⟩ := h
  cases r with
  | goto x hm => exact hu.enterState (by cases exitMove_goto hm <;> simp)
  | peerShows n _ => exact hu.takeAlarmCause _
  | peerAlarm n rest _ _ =>
    exact Unflagged.takeAlarmCause (s := { s with agenda := { s.agenda with peerAlarms := rest } }) ⟨h1, h2, h3⟩ _
  | rollaway r rest _ ha =>
    rw [takeRollaway, if_pos ha]
    refine Unflagged.enterState (t := .alarm) ?_ (by simp)
    exact ⟨h1, h2, h3⟩
  | exchange _ =>
    obtain ⟨k1, k2, k3⟩ := Unflagged.enterState (s := { s with hoe := s.hoe.startExchange }) ⟨h1, h2, h3⟩ (t := .leaving) (by simp)
    exact ⟨k1, k2, k3⟩
  | withdraw _ | yield _ _ _ _ => exact Unflagged.returnToOrigin ⟨h1, h2, h3⟩
  | unparked _ _ _ _ _ =>
    refine Unflagged.enterState (t := .holding) ?_ (by simp)
    exact ⟨h1, h2, h3⟩
  | rampOver _ _ _ => exact hu.rampOver
  | released hs _ _ | reheldAtOnce hs _ _ _ => exact absurd hs h1
  | reheld _ _ =>
    unfold rehold
    dsimp only
    split
    · exact ⟨h1, h2, h3⟩
    · refine Unflagged.enterState (t := .holding) ?_ (by simp)
      exact ⟨h1, h2, h3⟩
  | aborted _ hr _ | abortedByPeer _ hr => exact absurd ((releaseInProgress_iff s).1 hr).1 h1

end

theorem kept_unflagged : Kept Unflagged where
  nearly := fun s t h q =>
    { state := by rw [state_of_standing q.standing]; exact h.state
      flag := (congrArg (fun x => x.rsq.abortFlag) q.standing).trans h.flag
      timer := (congrArg (fun x => x.rsq.abortFlagTimer) q.standing).trans h.timer }
  followLift := fun _ h => h.followLift
  hop := fun _ _ h r => h.hop r
  minor := fun s t h m => by
    obtain ⟨h1, h2, h3⟩ := h
    cases m with
    | deferAsk => unfold deferAsk; split <;> exact ⟨h1, h2, h3⟩
    | testUnpark => unfold testUnpark; dsimp only; (repeat' split) <;> exact ⟨h1, h2, h3⟩
    | turn _ hs _ => exact absurd hs h1
    | countRampStep e _ =>
      unfold countRampStep
      dsimp only
      refine ⟨h1, ?_, ?_⟩
      · (repeat' split) <;> exact h2
      · (repeat' split) <;> exact h3
    | _ => exact ⟨h1, h2, h3⟩

/-! ### Bringing the table up to date changes no derived value -/

theorem alike_sync {k s : State} (h : Alike k s) : Alike k (sync s) := h.trans (alike_of_quietly (quietly_sync s))

section

variable {k s : State} (hk : Synced k) (h : Alike k s) (hp : s.ptb = k.ptb)

include hk h hp

/-- The derived values of an alike state are those of its table (R42). -/
theorem exitValues_sync : exitValuesDiffer s.ptb (sync s).ptb = false := by
  have al := alike_sync h
  have hs : Synced (sync s) := synced_of_sync (sync_idem s)
  have e1 : (sync s).ptb.pool = s.ptb.pool := by rw [hp]; exact al.pool hk hs
  have peers (p : Entry → Bool) : anyPeer (own (sync s)) (sync s).ptb.entries p = anyPeer (own k) k.ptb.entries p :=
    anyPeer_of_steady al.steady p
  have e2 : (sync s).ptb.alarmPeer = s.ptb.alarmPeer := by
    have h1 := congrArg Ptb.alarmPeer hs.table
    have h2 := congrArg Ptb.alarmPeer hk.table
    rw [hp, ← h1, ← h2]
    exact peers _
  have e3 : (sync s).ptb.abortPeer = s.ptb.abortPeer := by
    have h1 := congrArg Ptb.abortPeer hs.table
    have h2 := congrArg Ptb.abortPeer hk.table
    rw [hp, ← h1, ← h2]
    exact peers _
  have e4 : (sync s).ptb.vehicleStationary = s.ptb.vehicleStationary := by
    have q := quietly_sync s
    cases hv : s.ptb.vehicleStationary with
    | false => exact Bool.eq_false_iff.2 fun hx => Bool.false_ne_true (hv.symm.trans (q.stationary hx))
    | true =>
      refine q.stays hv ?_
      rw [rawOf_of_steady h.steady]
      have h2 : (k.ptb.vehicleStationary && rawStationary (own k) k.ptb.entries) = k.ptb.vehicleStationary :=
        congrArg Ptb.vehicleStationary hk.table
      have h3 : (k.ptb.entries.get (own k)).flags.standstill = k.crm.standstill :=
        congrArg (fun e => e.flags.standstill) hk.entry
      rw [hp] at hv
      simp only [hv, Bool.true_and, rawStationary, h3] at h2
      exact h2
  simp [exitValuesDiffer, e1, e2, e3, e4]

theorem planValues_sync : planValuesDiffer s.ptb (sync s).ptb = false := by
  have al := alike_sync h
  have hs : Synced (sync s) := synced_of_sync (sync_idem s)
  have e1 : (sync s).ptb.pool = s.ptb.pool := by rw [hp]; exact al.pool hk hs
  have e2 : (sync s).ptb.fixedSet = s.ptb.fixedSet := by rw [hp]; exact al.fixedSet hk hs
  have e3 : (sync s).ptb.flexibleSet = s.ptb.flexibleSet := by rw [hp]; exact al.flexibleSet hk hs
  have e4 : (sync s).ptb.eVehicle = s.ptb.eVehicle := by rw [hp]; exact al.eVehicle hk hs
  simp [planValuesDiffer, e1, e2, e3, e4]

/-- With the own entry out of the pool, it calls for no report (R34, R42). -/
theorem agenda_sync (hg : s.glu.gradeValid = k.glu.gradeValid) (hl : s.glu.loadValid = k.glu.loadValid)
    (hn : (entryOf k (own k)).inPool = false) : (sync s).agenda = s.agenda := by
  have al := alike_sync h
  have hs : Synced (sync s) := synced_of_sync (sync_idem s)
  have e1 : gradeValidOf s = s.glu.gradeValid := by
    rw [hg, ← al.gradeValid hk hs]
    rfl
  have e2 : loadValidOf s = s.glu.loadValid := by
    rw [hl, ← al.loadValid hk hs]
    rfl
  have e3 : poolEntryChanged (entryOf s (own s)) (ownEntry (refreshValidity s)) = false := by
    have he : (entryOf (sync s) (own (sync s))).inPool = false := by
      rw [al.own, (al.entry hk hs _).1]
      exact hn
    rw [hs.entry] at he
    unfold poolEntryChanged
    rw [show (ownEntry (refreshValidity s)).inPool = false from he, Bool.false_and]
  have e4 := exitValues_sync hk h hp
  have e5 := planValues_sync hk h hp
  have e0 : (sync s).agenda = { s.agenda with
      plan := (s.agenda.plan || (gradeValidOf s != s.glu.gradeValid) || (loadValidOf s != s.glu.loadValid))
        || planValuesDiffer s.ptb (sync s).ptb || poolEntryChanged (entryOf s (own s)) (ownEntry (refreshValidity s))
      exits := s.agenda.exits || exitValuesDiffer s.ptb (sync s).ptb
      success := s.agenda.success || exitValuesDiffer s.ptb (sync s).ptb } := rfl
  rw [e0, e1, e2, e3, e4, e5]
  simp

end

/-! ### The abort flag clears -/

/-- The own abort flag is taken back (R132). -/
def unflag (s : State) : State := { s with rsq := { s.rsq with abortFlag := false, abortFlagTimer := none } }

theorem exec_abortFlagTimerExpiry {s : State} (h : s.rsq.abortFlagTimer.isSome = true) :
    exec .abortFlagTimerExpiry s = .next (settle (unflag s)) := congrArg Host.Outcome.next (if_pos h)

theorem alike_unflag (s : State) : Alike s (unflag s) := ⟨rfl, rfl, rfl, rfl, rfl, rfl, fun _ _ _ => rfl⟩

theorem mem_pool_iff {s : State} (h : Synced s) : own s ∈ s.ptb.pool ↔ (entryOf s (own s)).inPool = true := by
  have e : poolOf s.ptb.entries = s.ptb.pool := congrArg Ptb.pool h.table
  rw [← e, poolOf, List.mem_filter]
  exact ⟨fun h => h.2, fun h => ⟨mem_allStations _, h⟩⟩

/-- Out of the pool nothing follows but the levels. -/
theorem settle_unflag_aside {s : State} (h : Settled s) (hn : own s ∉ s.ptb.pool) :
    settle (unflag s) = levels (sync (unflag s)) := by
  have hs := h.agree.toSynced
  have hi : (entryOf s (own s)).inPool = false := Bool.eq_false_iff.2 fun e => hn ((mem_pool_iff hs).2 e)
  refine settle_of_quiet ?_
  rw [agenda_sync hs (alike_unflag s) rfl rfl rfl hi]
  exact h.1

theorem unflagged_settle {s : State} (h : Settled s) :
    (settle (unflag s)).rsq.abortFlag = false ∧ (settle (unflag s)).rsq.abortFlagTimer = none := by
  by_cases hn : own s ∈ s.ptb.pool
  · have hi := (mem_pool_iff h.agree.toSynced).1 hn
    rw [h.agree.entry] at hi
    have hs : s.stc.state ≠ .releasing := by
      intro hs
      simp [ownEntry, Entry.inPool, hs, StationState.inPool] at hi
    have hu : Unflagged (unflag s) := ⟨hs, rfl, rfl⟩
    obtain ⟨-, h1, h2⟩ := kept_unflagged.settle hu
    exact ⟨h1, h2⟩
  · rw [settle_unflag_aside h hn]
    exact ⟨rfl, rfl⟩

/-- In the pool the change of the flag is a plan event (R34, R42). -/
theorem agenda_unflag {s : State} (h : Settled s) (hn : own s ∈ s.ptb.pool) (hf : s.rsq.abortFlag = true) :
    (sync (unflag s)).agenda.exits = false ∧ (sync (unflag s)).agenda.plan = true := by
  have hs := h.agree.toSynced
  have ha : s.agenda = {} := h.1
  have e4 := exitValues_sync hs (alike_unflag s) rfl
  refine ⟨?_, ?_⟩
  · show ((unflag s).agenda.exits || exitValuesDiffer (unflag s).ptb (sync (unflag s)).ptb) = false
    rw [e4, show (unflag s).agenda.exits = false from congrArg Agenda.exits ha]
    rfl
  · have hi := (mem_pool_iff hs).1 hn
    rw [hs.entry] at hi
    have e : poolEntryChanged (entryOf (unflag s) (own s)) (ownEntry (refreshValidity (unflag s))) = true := by
      have e1 : (entryOf (unflag s) (own s)).flags.releaseAbort = true := by
        rw [show entryOf (unflag s) (own s) = ownEntry s from hs.entry]
        exact hf
      have e2 : (ownEntry (refreshValidity (unflag s))).inPool = true := hi
      have e3 : (entryOf (unflag s) (own s)).flags ≠ (ownEntry (refreshValidity (unflag s))).flags := by
        intro e
        have := e1.symm.trans (congrArg EntryFlags.releaseAbort e)
        cases this
      unfold poolEntryChanged
      simp [e2, e3]
    show ((unflag s).agenda.plan || _ || _ || planValuesDiffer _ _ || poolEntryChanged (entryOf (unflag s) (own s)) (ownEntry (refreshValidity (unflag s)))) = true
    rw [e, Bool.or_true]

/-- A calm holding station computes once and keeps its state (R42, R53). -/
theorem holding_unflag {s : State} {a : AxleParams} (h : Settled s) (hc : Calm s) (hs : s.stc.state = .holding)
    (hsec : securing s = false) (hr : handoffReason s = false) (ha : s.suc.axle = some a) (hn : own s ∈ s.ptb.pool)
    (hf : s.rsq.abortFlag = true) :
    SameStation s (settle (unflag s)) ∧ ∃ l w z, (settle (unflag s)).hpl
      = { fullPlan s a with lastSubmitted := l, decreaseWait := w, limitTimer := z } := by
  have hu : Undisturbed (unflag s) := by
    obtain ⟨h1, h2, h3, h4, h5, h6, h7, h8, h9⟩ := Undisturbed.of_calm hc h.1
    exact ⟨h1, h2, h3, h4, h5, h6, h7, h8, h9⟩
  have q := quietly_sync (unflag s)
  obtain ⟨hx, hp⟩ := agenda_unflag h hn hf
  have hst : Stays (unflag s) := .holding hs hsec hr
  have sy : Synced (sync (unflag s)) := synced_of_sync (sync_idem _)
  obtain ⟨k, hk, hk1, hk2⟩ := idles_planEvent sy (hu.nearly q.toNearly) (hst.nearly q.toNearly) (.inl hs)
    (show (unflag s).agenda.ends = [] from congrArg Agenda.ends h.1)
    (show (unflag s).agenda.yields = [] from congrArg Agenda.yields h.1) hx hp
    (fun (e : s.stc.state = .secured) => by cases hs.symm.trans e) 63
  rw [drain_sync] at hk2
  have ht : settle (unflag s) = levels (drain (63 + 1) (unflag s)) := rfl
  generalize hm : ({ sync (unflag s) with agenda := { (sync (unflag s)).agenda with plan := false, force := false } } : State) = m
    at hk
  have qm : Quietly (unflag s) m := by
    rw [← hm]
    exact q.trans (quietly_agenda _ _ (.of_agenda rfl rfl rfl rfl rfl rfl))
  have qk : Quietly m k := by rw [hk]; exact (quietly_planEvent _ m).trans (quietly_sync _)
  have al : Alike s m := (alike_unflag s).trans (alike_of_quietly qm)
  have sm : Synced m := by
    obtain ⟨h1, h2, h3, h4, h5⟩ := sy
    rw [← hm]
    exact ⟨h1, h2, h3, h4, h5⟩
  have hmod : (drain (63 + 1) (unflag s)).mod = k.mod := congrArg Kernel.mod hk2.kernel
  have hout : k.mod.outfit = s.mod.outfit := qk.outfit.trans qm.outfit
  rw [ht]
  refine ⟨⟨?_, ?_, ?_⟩, ?_⟩
  · exact hk2.alike.state.trans ((alike_of_quietly qk).state.trans al.state)
  · show (drain (63 + 1) (unflag s)).mod.parkCmd = _
    rw [hmod]
    exact congrArg Outfit.parkCmd hout
  · show (drain (63 + 1) (unflag s)).mod.join = _
    rw [hmod]
    exact congrArg Outfit.join hout
  · obtain ⟨l, w, e⟩ := planEvent_hpl (sync (unflag s)).agenda.force (s := m) (a := a) (.inl (al.state.trans hs))
      ((congrArg Suc.axle al.suc).trans ha)
    have e1 : (drain (63 + 1) (unflag s)).hpl = k.hpl := congrArg Kernel.hpl hk2.kernel
    have e2 : k.hpl = _ := (congrArg State.hpl hk).trans ((sync_hpl _).trans e)
    have e3 : fullPlan m a = fullPlan s a := by
      have := fullPlan_alike al h.agree.toSynced sm a
      rwa [show m.hpl = s.hpl by rw [← hm]; rfl] at this
    refine ⟨l, w, limitTimerOf (drain (63 + 1) (unflag s)), ?_⟩
    show ({ (drain (63 + 1) (unflag s)).hpl with limitTimer := limitTimerOf (drain (63 + 1) (unflag s)) } : Plan) = _
    rw [e1, e2, e3]

/-- The first two parts of O51: the lapse timer and the timers of the abort flag and the re-hold window. -/
theorem lapse_aborts {s : State} (hs : s.stc.state = .releasing) (hp : s.rsq.phase ≠ .idle) (hl : s.rsq.lapseTimer.isSome = true) :
    ∃ t, exec .lapseTimerExpiry s = .next t
      ∧ t.rsq.abortFlag = true ∧ t.rsq.abortFlagTimer = some 1000 ∧ t.rsq.lastAbort = some .lapse
      ∧ t.rsq.abortCount = satInc 65535 s.rsq.abortCount ∧ t.rsq.phase = .idle ∧ t.stc.state ≠ .releasing
      ∧ t.hpl.planLock = false ∧ t.crm.eOwn = satInc 7 s.crm.eOwn := by
  obtain ⟨⟨h1, h2, h3, h4, h5, -⟩, h6, h7, h8, -⟩ := aborted_view hs (settle_acts _) (settle_settled _)
  exact ⟨_, exec_lapseTimerExpiry hs hp hl, h1, h2, h3, h4, h5, h6, h7, h8⟩

theorem abortFlag_clears {s : State} (ht : s.rsq.abortFlagTimer.isSome = true) (h : Settled s) :
    ∃ t, exec .abortFlagTimerExpiry s = .next t ∧ t.rsq.abortFlag = false ∧ t.rsq.abortFlagTimer = none
      ∧ (entryOf t (own s)).flags.releaseAbort = false
      ∧ (own s ∉ s.ptb.pool → SameStation s t ∧ t.hpl = s.hpl)
      ∧ (∀ a : AxleParams, Calm s → s.stc.state = .holding → securing s = false → handoffReason s = false →
          s.suc.axle = some a → own s ∈ s.ptb.pool → s.rsq.abortFlag = true →
          SameStation s t ∧ t.hpl.g = (fullPlan s a).g ∧ t.hpl.c = (fullPlan s a).c
            ∧ t.hpl.share = (fullPlan s a).share ∧ t.hpl.pT = (fullPlan s a).pT ∧ t.hpl.a = (fullPlan s a).a) := by
  obtain ⟨h1, h2⟩ := unflagged_settle h
  refine ⟨_, exec_abortFlagTimerExpiry ht, h1, h2, ?_, fun hn => ?_, fun a hc hs hsec hr ha hn hf => ?_⟩
  · have ho : own (settle (unflag s)) = own s := own_of_steady (steady_settle (unflag s))
    rw [← ho, (settle_settled (unflag s)).agree.entry]
    exact h1
  · rw [settle_unflag_aside h hn]
    refine ⟨⟨rfl, rfl, rfl⟩, ?_⟩
    show ({ s.hpl with limitTimer := limitTimerOf s } : Plan) = s.hpl
    rw [h.agree.limit]
  · obtain ⟨hst, l, w, z, e⟩ := holding_unflag h hc hs hsec hr ha hn hf
    rw [e]
    exact ⟨hst, rfl, rfl, rfl, rfl, rfl⟩

end Sys2Proof.Machine
end

section
/-! PROOFS. The STATUS of a peer that comes to show RELEASE_ABORT (O51). -/

namespace Sys2Proof.Machine

set_option Elab.async false

/-! ### A STATUS taken -/

/-- The entry of a STATUS is written, before its reports (R26). -/
def withStatus (n : StationNo) (e : Entry) (s : State) : State :=
  endReplier (decide (e.state ≠ .leaving)) n (setEntry n e s)

/-- What a STATUS writes beside an entry of the table is a replier record. -/
theorem withStatus_eq (n : StationNo) (e : Entry) (s : State) :
    ∃ r, withStatus n e s = { setEntry n e s with hoe := { s.hoe with repliers := r } } := by
  unfold withStatus endReplier
  split
  · exact ⟨_, rfl⟩
  · exact ⟨s.hoe.repliers, rfl⟩

theorem exec_statusNotice {n : StationNo} {o : Origin} {p : List Byte} {e : Entry} {s : State} (ho : o.val = n.val)
    (h : Hears o s) (hp : readStatus p = some e) :
    exec (.statusNotice o p) s
      = .next (settle (entryReports n (entryOf s n) ((entryOf s n).rewritten e)
          (withStatus n ((entryOf s n).rewritten e) { s with lnk := s.lnk.heard }))) := by
  obtain ⟨hl, hown⟩ := h
  have hs : stationOf o = some n := by
    have hlt : o.val < 8 := by rw [ho]; exact n.isLt
    unfold stationOf
    rw [dif_pos hlt]
    exact congrArg some (Fin.ext ho)
  show Host.Outcome.next (receiveFrom o none _ s) = _
  rw [receiveFrom, if_pos hl]
  dsimp only
  rw [if_neg hown, hs, hp]
  rfl

/-- The state in which the abort event of a STATUS is taken, as its first report. -/
def atAbortEvent (u : State) : State := { sync u with agenda := { (sync u).agenda with abortEvent := false } }

/-- A STATUS of a peer, not in ALARM, that comes to show RELEASE_ABORT has been written. -/
structure AbortShown (n : StationNo) (s u : State) : Prop where
  first : nextReport (sync u) = some (takeAbortEvent (atAbortEvent u))
  shows : (atAbortEvent u).ptb.abortPeer = true
  alarms : unacknowledgedAlarms s = [] → unacknowledgedAlarms (atAbortEvent u) = []
  stc : (atAbortEvent u).stc = s.stc
  rsq : (atAbortEvent u).rsq = s.rsq
  crm : (atAbortEvent u).crm = s.crm
  suc : (atAbortEvent u).suc = s.suc
  now : (atAbortEvent u).now = s.now
  cab : (atAbortEvent u).ptb.cab = s.ptb.cab
  stationary : s.ptb.vehicleStationary = false → (atAbortEvent u).ptb.vehicleStationary = false
  quiet : (atAbortEvent u).agenda.ends = [] ∧ (atAbortEvent u).agenda.rollaways = []
    ∧ (atAbortEvent u).agenda.peerAlarms = [] ∧ (atAbortEvent u).agenda.abortEvent = false

theorem abortShown {n : StationNo} {e : Entry} {s : State} (h : Settled s) (hn : n ≠ own s) (hs : e.flags.releaseAbort = true)
    (ha : e.state ≠ .alarm) (hb : (entryOf s n).showsAbort = false) :
    AbortShown n s (entryReports n (entryOf s n) ((entryOf s n).rewritten e)
      (withStatus n ((entryOf s n).rewritten e) { s with lnk := s.lnk.heard })) := by
  have hsa : ((entryOf s n).rewritten e).showsAlarm = false := by
    simp [Entry.showsAlarm, Entry.rewritten, ha]
  have hsb : ((entryOf s n).rewritten e).showsAbort = true := by
    simp [Entry.showsAbort, Entry.rewritten, Entry.isFresh, hs]
  generalize (entryOf s n).rewritten e = x at hsa hsb
  obtain ⟨r, hr⟩ := withStatus_eq n x { s with lnk := s.lnk.heard }
  rw [hr]
  have hag : s.agenda = {} := h.1
  generalize hu : entryReports n (entryOf s n) x { setEntry n x { s with lnk := s.lnk.heard } with
    hoe := { s.hoe with repliers := r } } = u
  have a1 : u.agenda.ends = [] ∧ u.agenda.rollaways = [] ∧ u.agenda.peerAlarms = [] ∧ u.agenda.abortEvent = true := by
    rw [← hu]
    refine ⟨congrArg Agenda.ends hag, congrArg Agenda.rollaways hag, ?_, ?_⟩
    · show (if (x.showsAlarm && !(entryOf s n).showsAlarm) = true then _ else s.agenda.peerAlarms) = []
      rw [hsa, Bool.false_and, if_neg (by simp), hag]
    · show (s.agenda.abortEvent || (x.showsAbort && !(entryOf s n).showsAbort)) = true
      rw [hsb, hb, hag]
      rfl
  have entry (m : StationNo) : entryOf u m = if m = n then x else entryOf s m := by
    rw [← hu]
    show (s.ptb.entries.set n x).get m = _
    split
    · rename_i hm
      rw [hm, Table.get_set_self]
    · rename_i hm
      exact Table.get_set_of_ne _ _ hm
  have q : Quietly u (atAbortEvent u) := (quietly_sync u).trans (quietly_agenda _ _
    { ends := fun _ h => .inl h, rollaways := fun _ h => .inl h, peerAlarms := fun _ h => h, yields := fun _ h => h,
      abortEvent := fun h => absurd h Bool.false_ne_true, turn := fun h => h })
  have ho : own u = own s := by rw [← hu]; rfl
  obtain ⟨h1, h2, h3, h4⟩ := a1
  refine ⟨?_, ?_, fun hal => ?_, by rw [← hu]; rfl, by rw [← hu]; rfl, by rw [← hu]; rfl, by rw [← hu]; rfl,
    by rw [← hu]; rfl, by rw [← hu]; rfl, fun hv => ?_, h1, h2, h3, rfl⟩
  · have e1 : (sync u).agenda.ends = [] := h1
    have e2 : (sync u).agenda.rollaways = [] := h2
    have e3 : (sync u).agenda.peerAlarms = [] := h3
    have e4 : (sync u).agenda.abortEvent = true := h4
    simp [nextReport, e1, e2, e3, e4, atAbortEvent]
  · have e1 : anyPeer (own u) (u.ptb.entries.set (own u) (ownEntry (refreshValidity u))) Entry.showsAbort = true := by
      rw [anyPeer, List.any_eq_true]
      refine ⟨n, mem_allStations n, ?_⟩
      rw [Table.get_set_of_ne _ _ (by rw [ho]; exact hn), show u.ptb.entries.get n = x from (entry n).trans (if_pos rfl), hsb]
      simp [ho, hn]
    exact e1
  · rw [q.alarms]
    unfold unacknowledgedAlarms at hal ⊢
    have hp : peersOf u = peersOf s := by unfold peersOf; rw [ho]
    have hk : u.alarm = s.alarm := by rw [← hu]; rfl
    rw [List.filter_eq_nil_iff] at hal ⊢
    rw [hp, hk]
    intro m hm
    rw [entry m]
    split
    · simp [hsa]
    · exact hal m hm
  · refine moving_of_nearly ?_ q.toNearly
    rw [← hu]
    exact hv

/-! ### What follows in RELEASING and in FREE -/

section

variable {n : StationNo} {s u : State} (x : AbortShown n s u)

include x

theorem AbortShown.undisturbed (hu : Undisturbed s) (hs : s.stc.state ≠ .leaving) : Undisturbed (atAbortEvent u) := by
  obtain ⟨h1, h2, h3, h4⟩ := x.quiet
  refine ⟨?_, x.alarms hu.alarms, by simp [h1], h2, h3, fun e => ?_, h4, ?_, ?_⟩
  · rw [failureRaised, x.stc]
    exact hu.failure
  · rw [x.stc] at e
    exact absurd e hs
  · rw [x.crm, x.stc, x.suc]
    exact hu.near
  · rw [x.suc]
    exact hu.threshold

theorem AbortShown.securing : securing (atAbortEvent u) = securing s := by
  unfold Machine.securing cabNow
  rw [x.cab]

theorem AbortShown.handoffReason : handoffReason (atAbortEvent u) = handoffReason s := by
  unfold Machine.handoffReason liftAsked ownLiftBit liftRole cabNow own
  rw [x.cab, x.suc]

/-- A release under way is aborted by it (R131). -/
theorem AbortShown.aborts (hu : Undisturbed s) (hs : s.stc.state = .releasing) (hp : s.rsq.phase ≠ .idle) :
    Aborts .peer s (settle u) := by
  have hw := x.undisturbed hu (by simp [hs])
  have hsw : (atAbortEvent u).stc.state = .releasing := by rw [x.stc, hs]
  have r := settle_first x.first
  rw [takeAbortEvent, if_pos ((releaseInProgress_iff _).2 ⟨hsw, by rw [x.rsq]; exact hp⟩), abortRelease_eq] at r
  exact aborts_of_acts hsw hw (by rw [x.rsq]) (by rw [x.crm]) x.suc x.now x.securing x.handoffReason r (settle_settled u)

/-- In the re-hold window it is taken as the call to hold again (R133). -/
theorem AbortShown.reholds (hs : s.stc.state = .free) (hw : s.rsq.reholdWindow.isSome = true) :
    Acts (afterMove (rehold (atAbortEvent u))) (settle u) := by
  have hsw : (atAbortEvent u).stc.state = .free := by rw [x.stc, hs]
  have r := settle_first x.first
  have hn : ¬ releaseInProgress (atAbortEvent u) = true := fun hr => by
    cases hsw.symm.trans ((releaseInProgress_iff _).1 hr).1
  rwa [takeAbortEvent, if_neg hn, if_pos ((reholds_iff _).2 ⟨hsw, by rw [x.rsq]; exact hw, x.shows⟩)] at r

/-- A FREE station that may hold again leaves FREE, its counts and its aborts as they were (R133). -/
theorem AbortShown.holds (hu : Undisturbed s) (hs : s.stc.state = .free) (hw : s.rsq.reholdWindow.isSome = true)
    (hl : s.stc.lifted = false) (ht : s.stc.loweringTimer = none) (hc : s.crm.watch = false) :
    (settle u).stc.state ≠ .free ∧ (settle u).stc.holdEntryTime = s.now
      ∧ (settle u).rsq.reholdWindow = none ∧ (settle u).rsq.releaseCompleted = none
      ∧ (settle u).rsq.abortFlag = s.rsq.abortFlag ∧ (settle u).rsq.abortCount = s.rsq.abortCount
      ∧ (settle u).crm.eOwn = s.crm.eOwn ∧ (settle u).crm.left = s.crm.left ∧ (settle u).crm.right = s.crm.right
      ∧ (settle u).crm.d = s.crm.d
      ∧ (Machine.securing s = false → Machine.handoffReason s = false →
          HoldsAgain s (settle u) ∧ (settle u).crm.watch = true ∧ (settle u).crm.rebase = s.crm.d
            ∧ (settle u).crm.rollBase = s.crm.d) := by
  have r := x.reholds hs hw
  have hsw : (atAbortEvent u).stc.state = .free := by rw [x.stc, hs]
  have hr : rehold (atAbortEvent u)
      = enterState .holding { atAbortEvent u with rsq := (atAbortEvent u).rsq.closeWindow } := by
    unfold rehold
    dsimp only
    rw [if_neg]
    rw [x.stc, hl, ht]
    simp
  rw [hr] at r
  generalize hw' : ({ atAbortEvent u with rsq := (atAbortEvent u).rsq.closeWindow } : State) = w at r
  have w1 : w.stc = s.stc := by rw [← hw']; exact x.stc
  have w2 : w.crm = s.crm := by rw [← hw']; exact x.crm
  have w3 : w.rsq = s.rsq.closeWindow := by rw [← hw', ← x.rsq]
  have w4 : w.now = s.now := by rw [← hw']; exact x.now
  have w5 : w.suc = s.suc := by rw [← hw']; exact x.suc
  have hold : InHold (holdView (enterState .holding w)) (enterState .holding w) :=
    ⟨.inl rfl, fun (e : StationState.holding = .leaving) => (by cases e), rfl, rfl, rfl⟩
  have k := kept_inHold (holdView (enterState .holding w))
  have h := k.run (k.afterMove hold) r
  have hb : isHoldEntry w.stc.state .holding = false := by rw [w1, hs]; rfl
  obtain ⟨c1, c2, c3, -, c4⟩ := counts_enterState hb
  have hq : blankRsq (settle u).rsq = blankRsq (s.rsq.closeWindow.enter .free .holding (cabNow w).gear.move w.crm.d) := by
    rw [← w3, ← show w.stc.state = .free by rw [w1, hs]]
    exact congrArg HoldView.rsq h.view
  refine ⟨h.ne (by simp) (by simp) (by simp) (by simp) (by simp), ?_, congrArg Rsq.reholdWindow hq,
    congrArg Rsq.releaseCompleted hq, (congrArg Rsq.abortFlag hq :), (congrArg Rsq.abortCount hq :), ?_, ?_, ?_, ?_, fun h1 h2 => ?_⟩
  · refine (congrArg HoldView.entryTime h.view).trans ?_
    show (enterState .holding w).stc.holdEntryTime = _
    rw [holdEntryTime_enterState, w1, hs, w4]
    rfl
  · exact (congrArg HoldView.events h.view).trans (c1.trans (congrArg Crm.eOwn w2))
  · exact (congrArg (fun v => v.counts.1) h.view).trans (c2.trans (congrArg Crm.left w2))
  · exact (congrArg (fun v => v.counts.2.1) h.view).trans (c3.trans (congrArg Crm.right w2))
  · exact (congrArg (fun v => v.counts.2.2) h.view).trans (c4.trans (congrArg Crm.d w2))
  · have hv : Undisturbed (enterState .holding w) := by
      have h0 : Undisturbed w := by
        obtain ⟨h1, h2, h3, h4, h5, h6, h7, h8, h9⟩ := x.undisturbed hu (by simp [hs])
        rw [← hw']
        exact ⟨h1, h2, h3, h4, h5, h6, h7, h8, h9⟩
      exact h0.enterState .holding (by simp)
    have e1 : Machine.securing w = false := by rw [← hw']; exact x.securing.trans h1
    have e2 : Machine.handoffReason w = false := by rw [← hw']; exact x.handoffReason.trans h2
    obtain ⟨k1, k2, k3, k4, k5, k6⟩ := entered_holding hv (.inr (by rw [w1, hs])) e1 e2 r
    refine ⟨⟨k1, k2, k3, by rw [k4, w5], by rw [k5, w4]⟩, ?_⟩
    have hc' : (enterState .holding w).crm = (w.crm.enter .holding false w.glu.accAverage) := by
      show w.crm.enter .holding (isHoldEntry w.stc.state .holding) w.glu.accAverage = _
      rw [hb]
    have hbegin : (enterState .holding w).crm = w.crm.beginWatch w.glu.accAverage := by
      rw [hc', w2]
      unfold Crm.enter
      simp [StationState.monitored, hc]
    have hd : w.crm.d = s.crm.d := by rw [w2]
    refine ⟨?_, ?_, ?_⟩
    · refine (congrArg (fun y => y.crm.watch) k6).trans ?_
      show (enterState .holding w).crm.watch = true
      rw [hbegin]
      rfl
    · refine (congrArg (fun y => y.crm.rebase) k6).trans ?_
      show (enterState .holding w).crm.rebase = _
      rw [hbegin, ← hd]
      rfl
    · refine (congrArg (fun y => y.crm.rollBase) k6).trans ?_
      show (enterState .holding w).crm.rollBase = _
      rw [hbegin, ← hd]
      rfl

end

/-- A rolling FREE station keeps its window closed. -/
theorem kept_closed : Kept (fun t => Rolls .free t ∧ t.rsq.reholdWindow = none ∧ t.rsq.releaseCompleted = none) where
  nearly := fun s t ⟨h1, h2, h3⟩ q => ⟨kept_rolls.nearly s t h1 q, (congrArg (fun x => x.rsq.reholdWindow) q.standing).trans h2,
    (congrArg (fun x => x.rsq.releaseCompleted) q.standing).trans h3⟩
  followLift := fun s ⟨h1, h2, h3⟩ => by
    refine ⟨h1.followLift, ?_, ?_⟩ <;> unfold followLift
    · split <;> exact h2
    · split <;> exact h3
  hop := fun _ _ h r => absurd r h.1.no_hop
  minor := fun s t ⟨h1, h2, h3⟩ m => by
    refine ⟨h1.minor m, ?_⟩
    cases m with
    | deferAsk => unfold deferAsk; split <;> exact ⟨h2, h3⟩
    | testUnpark => unfold testUnpark; dsimp only; (repeat' split) <;> exact ⟨h2, h3⟩
    | countRampStep e _ =>
      unfold countRampStep
      exact ⟨h2, h3⟩
    | _ => exact ⟨h2, h3⟩

/-- A lifted or lowered axle stays FREE, and the window closes (R133). -/
theorem AbortShown.closes {n : StationNo} {s u : State} (x : AbortShown n s u) (hu : Undisturbed s) (hs : s.stc.state = .free)
    (hw : s.rsq.reholdWindow.isSome = true) (hl : s.stc.lifted = true ∨ s.stc.loweringTimer.isSome = true)
    (hi : s.suc.inhibit = false) (hv : s.ptb.vehicleStationary = false) (hc : s.crm.watch = false) :
    (settle u).stc.state = .free ∧ (settle u).rsq.reholdWindow = none ∧ (settle u).rsq.releaseCompleted = none := by
  have r := x.reholds hs hw
  have hr : rehold (atAbortEvent u) = { atAbortEvent u with rsq := (atAbortEvent u).rsq.closeWindow } := by
    unfold rehold
    dsimp only
    rw [if_pos]
    rw [x.stc]
    simpa using hl
  rw [hr] at r
  obtain ⟨h1, h2, h3, -, h5, -, h7, -⟩ := x.undisturbed hu (by simp [hs])
  obtain ⟨-, q2, q3, q4⟩ := x.quiet
  have start : Rolls .free { atAbortEvent u with rsq := (atAbortEvent u).rsq.closeWindow } := by
    refine ⟨?_, x.stationary hv, ?_, h1, h2, q2, q3, q4, ?_⟩
    · show (atAbortEvent u).stc.state = .free
      rw [x.stc, hs]
    · show (atAbortEvent u).suc.inhibit = false
      rw [x.suc, hi]
    · show (atAbortEvent u).crm.watch = false
      rw [x.crm, hc]
  obtain ⟨k1, k2, k3⟩ := kept_closed.run (kept_closed.afterMove ⟨start, rfl, rfl⟩) r
  exact ⟨k1.state, k2, k3⟩

end Sys2Proof.Machine
end

section
/-! PROOFS. A release or a hand-off ramp under way: the reports that come before the test of its end change nothing that the test
reads (O51). -/

namespace Sys2Proof.Machine

set_option Elab.async false

/-! ### Reports counted -/

/-- A bound on the reports that an agenda calls for before a ramp is tested; a plan event calls for a test of the exits and at most
one of the abort conditions. -/
def reportsLeft (a : Agenda) : Nat :=
  (if a.plan then 8 else 0) + (if a.exits then 1 else 0) + (if a.abortTest then 2 else 0) + (if a.turn then 1 else 0)

theorem reportsLeft_le (a : Agenda) : reportsLeft a ≤ 12 := by
  unfold reportsLeft
  split <;> split <;> split <;> split <;> omega

/-- Reports that lower the bound lead to a state that wants none of them, within the reports of one event. -/
theorem drain_reaches {P D : State → Prop}
    (hsync : ∀ x, P x → P (sync x) ∧ (sync x).agenda = x.agenda)
    (hstep : ∀ x, P x → Synced x → D x ∨ ∃ y, nextReport x = some y ∧ P y ∧ reportsLeft y.agenda < reportsLeft x.agenda)
    (n : Nat) (x : State) (h : P x) (hn : reportsLeft x.agenda < n) :
    ∃ m y, P y ∧ Synced y ∧ D y ∧ drain n x = drain (m + 1) y := by
  induction n generalizing x with
  | zero => omega
  | succ n ih =>
    obtain ⟨hp, ha⟩ := hsync x h
    have hs : Synced (sync x) := synced_of_sync (sync_idem x)
    rcases hstep _ hp hs with hd | ⟨y, hy, hpy, hl⟩
    · exact ⟨n, sync x, hp, hs, hd, (drain_sync _ _).symm⟩
    · obtain ⟨m, z, h1, h2, h3, h4⟩ := ih y hpy (by rw [ha] at hl; omega)
      refine ⟨m, z, h1, h2, h3, ?_⟩
      rw [← h4, drain, hy]

/-- The next report of a state that is up to date begins its drain. -/
theorem acts_drain {n : Nat} {y z : State} (hs : Synced y) (hy : nextReport y = some z) : Acts z (levels (drain (n + 1) y)) := by
  rw [drain, hs.sync, hy]
  exact (drain_acts n z).trans (acts_quiet (quietly_levels _))

/-! ### A plan event out of the hold -/

/-- A plan event in RELEASING or LEAVING submits nothing and sets no flag; it forms the plan and the downhill direction. -/
theorem planEvent_form (b : Bool) {s : State} (hu : Undisturbed s) (hs : s.stc.state = .releasing ∨ s.stc.state = .leaving) :
    ∃ z p c, planEvent b s = { s with
        glu := { s.glu with plausibilityTimer := z }, hpl := computedPlan s
        hoe := { s.hoe with planPending := p }
        crm := { s.crm with downhill := downhillOf (computedPlan s).g s.suc.vehicle.gMin }
        agenda := { s.agenda with exits := true, success := true, answers := true, abortTest := s.agenda.abortTest || c } } := by
  have hc : compute (comparePlausibility s)
      = { comparePlausibility s with hpl := computedPlan (comparePlausibility s) } := by
    have h1 (u : State) (hu : u.stc.state = .releasing ∨ u.stc.state = .leaving) : currentConditions u = u := by
      unfold currentConditions
      rcases hu with hu | hu <;> simp [hu, StationState.sharing]
    unfold compute
    dsimp only
    rw [h1 { comparePlausibility s with hpl := computedPlan (comparePlausibility s) } hs]
    simp [callStatusIf]
  have hsub (u : State) (hu : u.stc.state = .releasing ∨ u.stc.state = .leaving) : submissionDecision b u = u := by
    unfold submissionDecision
    rcases hu with hu | hu <;> simp [hu]
  have hdown (u : State) (hw : u.crm.watch = true → (u.crm.d - u.crm.rollBase).natAbs < u.suc.vehicle.rollawayThreshold) :
      ∃ c, formDownhill u = { u with crm := { u.crm with downhill := downhillOf u.hpl.g u.suc.vehicle.gMin }
                                     agenda := { u.agenda with abortTest := u.agenda.abortTest || c } } := by
    unfold formDownhill
    dsimp only
    split
    · rename_i hd
      refine ⟨false, ?_⟩
      rw [hd, Bool.or_false]
    · refine ⟨true, ?_⟩
      rw [rollawayTest, if_neg, Bool.or_true]
      intro hr
      simp only [Crm.rolls, Bool.and_eq_true, decide_eq_true_eq] at hr
      have h1 := hw hr.1
      have h2 := Crm.travel_le { u.crm with downhill := downhillOf u.hpl.g u.suc.vehicle.gMin }
      have h3 := hr.2
      dsimp only at h1 h2 h3
      omega
  unfold planEvent
  rw [hc, computedPlan_comparePlausibility]
  dsimp only
  obtain ⟨c, hc⟩ := hdown { comparePlausibility s with hpl := computedPlan s, hoe := { (comparePlausibility s).hoe with
    planPending := (comparePlausibility s).hoe.planPending && !fullState (comparePlausibility s).stc.state } }
    (fun hw => (hu.near hw).2)
  refine ⟨timerWhile (gradeDisagrees s) 2000 s.glu.plausibilityTimer, s.hoe.planPending && !fullState s.stc.state, c, ?_⟩
  rw [hc]
  exact hsub _ hs

/-- Out of the hold and of the exchange a test of the exits finds none, and tends the marks alone. -/
theorem testExits_aside {s : State} (hu : Undisturbed s)
    (hs : s.stc.state = .releasing ∨ (s.stc.state = .leaving ∧ s.hoe.phase = .ramp)) :
    testExits s = { tendHandoff s with
      stc := { s.stc with unparkSpent := s.stc.unparkSpent && unparkCondition (tendHandoff s) } } := by
  have hne : s.stc.state ≠ .free ∧ s.stc.state ≠ .standstill ∧ s.stc.state ≠ .holding ∧ s.stc.state ≠ .secured
      ∧ s.stc.state ≠ .service := by
    rcases hs with hs | ⟨hs, -⟩ <;> simp [hs]
  obtain ⟨h1, h2, h3, h4, h5⟩ := hne
  have hm : exitMove (tendHandoff s) = none := by
    rw [(hu.minor .tendHandoff).exitMove, stateExit]
    rcases hs with hs | ⟨hs, hp⟩
    · simp [tendHandoff, hs]
    · simp [tendHandoff, hs, hp]
  have hd : deferAsk (tendHandoff s) = tendHandoff s := by
    unfold deferAsk
    rw [if_neg (by simp [tendHandoff, h3, h4])]
  rw [testExits_none (followLift_of_state h1 h2) hm, hd, testUnpark, if_neg (by simpa [tendHandoff] using h4), testService,
    if_neg (by simp [tendHandoff, h5])]
  rfl

/-! ### A ramp or a release under way -/

/-- `x` is `b`, out of the hold, but for the marks that tests of the exits and plan events write. -/
structure Underway (b x : State) : Prop where
  undisturbed : Undisturbed x
  quiet : x.agenda.ends = [] ∧ x.agenda.yields = []
  aside : x.stc.state = .releasing ∨ (x.stc.state = .leaving ∧ x.hoe.phase = .ramp)
  formed : ∃ k, Synced k ∧ Alike k x ∧ x.ptb = k.ptb ∧ x.glu.gradeValid = k.glu.gradeValid ∧ x.glu.loadValid = k.glu.loadValid
  steady : steady x = steady b
  resting : resting x = resting b
  rsq : x.rsq = b.rsq
  mod : x.mod = b.mod
  downhill : b.stc.state = .releasing → x.hpl.g = b.hpl.g
    ∧ (x.crm.downhill = b.crm.downhill ∨ x.crm.downhill = downhillOf b.hpl.g b.suc.vehicle.gMin)
  abortPeer : x.ptb.abortPeer = b.ptb.abortPeer
  stationary : x.ptb.vehicleStationary = b.ptb.vehicleStationary

/-- Brought up to date, a quiet station out of the hold is such a beginning. -/
theorem underway_sync {x : State} (hu : Undisturbed x) (he : x.agenda.ends = []) (hy : x.agenda.yields = [])
    (hs : x.stc.state = .releasing ∨ (x.stc.state = .leaving ∧ x.hoe.phase = .ramp)) : Underway (sync x) (sync x) :=
  ⟨hu.nearly (quietly_sync x).toNearly, ⟨he, hy⟩, hs, ⟨_, synced_of_sync (sync_idem x), .refl _, rfl, rfl, rfl⟩, rfl, rfl, rfl, rfl,
    fun _ => ⟨rfl, .inl rfl⟩, rfl, rfl⟩

/-- Out of the pool the own entry calls for no report. -/
theorem Underway.sync {b x : State} (h : Underway b x) :
    Underway b (sync x) ∧ (Machine.sync x).agenda = x.agenda := by
  obtain ⟨h1, h2, h3, ⟨k, k1, k2, k3, k4, k5⟩, h5, h6, h8, h9, hd, h10, h11⟩ := h
  have hn : (entryOf k (own k)).inPool = false := by
    rw [k1.entry]
    have : k.stc.state = .releasing ∨ k.stc.state = .leaving := by
      rw [← k2.state]
      exact h3.imp id And.left
    rcases this with hs | hs <;> simp [ownEntry, Entry.inPool, hs, StationState.inPool]
  have e := agenda_sync k1 k2 k3 k4 k5 hn
  have hv := exitValues_sync k1 k2 k3
  simp only [exitValuesDiffer, Bool.or_eq_false_iff, bne_eq_false_iff_eq] at hv
  have hs : Synced (Machine.sync x) := synced_of_sync (sync_idem x)
  have q := quietly_sync x
  refine ⟨⟨h1.nearly q.toNearly, ?_, h3, ⟨_, hs, .refl _, rfl, rfl, rfl⟩, q.steady.trans h5,
    (resting_of_standing q.standing).trans h6, h8, h9, hd, ?_, ?_⟩, e⟩
  · rw [e]
    exact h2
  · rw [← h10]
    simp_all
  · rw [← h11]
    simp_all

/-- Another agenda, nothing new from outside the event on it. -/
theorem Underway.agenda {b x : State} (h : Underway b x) (a : Agenda)
    (ha : (a.ends, a.rollaways, a.peerAlarms, a.yields, a.abortEvent)
      = (x.agenda.ends, x.agenda.rollaways, x.agenda.peerAlarms, x.agenda.yields, x.agenda.abortEvent)) :
    Underway b { x with agenda := a } := by
  obtain ⟨⟨u1, u2, u3, u4, u5, u6, u7, u8, u9⟩, h2, h3, ⟨k, k1, k2, k3⟩, h5, h6, h8, h9, hd, h10, h11⟩ := h
  simp only [Prod.mk.injEq] at ha
  obtain ⟨a1, a2, a3, a4, a5⟩ := ha
  exact ⟨⟨u1, u2, by rw [a1]; exact u3, a2.trans u4, a3.trans u5, fun e => a4.trans (u6 e), a5.trans u7, u8, u9⟩,
    ⟨a1.trans h2.1, a4.trans h2.2⟩, h3, ⟨k, k1, k2.trans ⟨rfl, rfl, rfl, rfl, rfl, rfl, fun _ _ _ => rfl⟩, k3⟩, h5, h6, h8, h9,
    hd, h10, h11⟩

/-- A test of the exits. -/
theorem Underway.exits {b x : State} (h : Underway b x) : Underway b (testExits x) ∧ (testExits x).agenda = x.agenda := by
  have e := testExits_aside h.undisturbed h.aside
  have hr : Machine.resting (testExits x) = Machine.resting x := by
    rw [e]
    obtain ⟨-, -, h3, -⟩ := h
    have hp : (tendHandoff x).hoe.phase = if x.hoe.phase = .deferred then .idle else x.hoe.phase := by
      rcases h3 with hs | ⟨hs, -⟩ <;> simp [tendHandoff, hs]
    unfold Machine.resting
    have hq : (if (tendHandoff x).hoe.phase = .deferred then LeaverPhase.idle else (tendHandoff x).hoe.phase)
        = if x.hoe.phase = .deferred then .idle else x.hoe.phase := by
      rw [hp]
      split <;> simp_all
    simp only [hq]
    rfl
  obtain ⟨h1, h2, h3, ⟨k, k1, k2, k3⟩, h5, h6, h8, h9, hd, h10, h11⟩ := h
  have hu : Undisturbed (testExits x) := by
    rw [e]
    obtain ⟨u1, u2, u3, u4, u5, u6, u7, u8, u9⟩ := h1.minor .tendHandoff
    exact ⟨u1, u2, u3, u4, u5, u6, u7, u8, u9⟩
  refine ⟨⟨hu, ?_, ?_, ?_, ?_, hr.trans h6, ?_, ?_, ?_, ?_, ?_⟩, by rw [e]; rfl⟩ <;> rw [e]
  · exact h2
  · exact h3.imp id fun ⟨hs, hp⟩ => ⟨hs, by simp [tendHandoff, hp]⟩
  · exact ⟨k, k1, k2.trans ⟨rfl, rfl, rfl, rfl, rfl, rfl, fun _ _ _ => rfl⟩, k3⟩
  · exact h5
  · exact h8
  · exact h9
  · exact hd
  · exact h10
  · exact h11

/-- A plan event. -/
theorem Underway.plan {b x : State} (h : Underway b x) (f : Bool) : Underway b (planEvent f x)
    ∧ ∃ c, (planEvent f x).agenda
      = { x.agenda with exits := true, success := true, answers := true, abortTest := x.agenda.abortTest || c } := by
  obtain ⟨z, p, c, e⟩ := planEvent_form f h.undisturbed (h.aside.imp id And.left)
  have q := quietly_planEvent f x
  have hg : b.stc.state = .releasing → (computedPlan x).g = x.hpl.g := by
    intro hs
    rw [computedPlan, state_of_resting h.resting, hs]
    cases x.suc.axle <;> rfl
  obtain ⟨h1, h2, h3, ⟨k, k1, k2, k3⟩, h5, h6, h8, h9, hd, h10, h11⟩ := h
  refine ⟨⟨h1.nearly q.toNearly, ?_, ?_, ⟨k, k1, k2.trans (alike_of_quietly q), ?_⟩, q.steady.trans h5,
    (resting_of_standing q.standing).trans h6, ?_, ?_, fun hs => ?_, ?_, ?_⟩, c, ?_⟩ <;> rw [e]
  · exact h2
  · exact h3
  · exact k3
  · exact h8
  · exact h9
  · refine ⟨(hg hs).trans (hd hs).1, .inr ?_⟩
    rw [(hg hs).trans (hd hs).1, suc_of_steady h5]
  · exact h10
  · exact h11

/-- A test of the exits or a plan event is the next report, and brings the station nearer to its end. -/
theorem Underway.report {b x : State} (h : Underway b x) (hx : x.agenda.exits = true ∨ x.agenda.plan = true) :
    ∃ y, nextReport x = some y ∧ Underway b y ∧ reportsLeft y.agenda < reportsLeft x.agenda
      ∧ (x.agenda.abortTest = true → y.agenda.abortTest = true) ∧ y.agenda.ramp = x.agenda.ramp := by
  have hu := h.undisturbed
  have he : x.agenda.exits = true → _ := nextReport_exits h.quiet.1 hu.rollaways hu.peerAlarms hu.abortEvent h.quiet.2
  by_cases hxe : x.agenda.exits = true
  · obtain ⟨k1, k2⟩ := (h.agenda { x.agenda with exits := false } rfl).exits
    refine ⟨_, he hxe, k1, ?_, ?_, ?_⟩ <;> rw [k2]
    · simp [reportsLeft, hxe]
    · exact id
  · have hp := hx.resolve_left hxe
    obtain ⟨k1, c, k2⟩ := (h.agenda { x.agenda with plan := false, force := false } rfl).plan x.agenda.force
    refine ⟨_, ?_, k1, ?_, ?_, ?_⟩
    · simp [nextReport, h.quiet, hu.rollaways, hu.peerAlarms, hu.abortEvent, hxe, hp]
    all_goals rw [k2]
    · simp only [reportsLeft, hxe, hp, if_true]
      have : (if (x.agenda.abortTest || c) = true then 2 else 0) ≤ 2 := by split <;> omega
      simp only [Bool.false_eq_true, if_false]
      omega
    · intro ha
      simp [ha]

/-- The abort conditions are tested once the exits and the plan are. -/
theorem Underway.reaches_abortTest {b x : State} (h : Underway b x) (ha : x.agenda.abortTest = true) :
    ∃ y, Underway b y ∧ Acts (testAbort y) (settle x) := by
  obtain ⟨m, y, ⟨h1, -⟩, h2, h3, h4⟩ := drain_reaches (P := fun z => Underway b z ∧ z.agenda.abortTest = true)
    (D := fun z => nextReport z = some (testAbort { z with agenda := { z.agenda with abortTest := false } }))
    (fun z ⟨hz, ha⟩ => ⟨⟨hz.sync.1, by rw [hz.sync.2, ha]⟩, hz.sync.2⟩)
    (fun z ⟨hz, ha⟩ _ => by
      by_cases hx : z.agenda.exits = true ∨ z.agenda.plan = true
      · obtain ⟨y, k1, k2, k3, k4, -⟩ := hz.report hx
        exact .inr ⟨y, k1, ⟨k2, k4 ha⟩, k3⟩
      · have hu := hz.undisturbed
        rw [not_or] at hx
        refine .inl ?_
        simp [nextReport, hz.quiet, hu.rollaways, hu.peerAlarms, hu.abortEvent, hx, ha])
    reportLimit x ⟨h, ha⟩ (Nat.lt_of_le_of_lt (reportsLeft_le _) (by decide))
  refine ⟨_, h1.agenda { y.agenda with abortTest := false } rfl, ?_⟩
  rw [settle, h4]
  exact acts_drain h2 h3

/-- A release that nothing aborts, or a hand-off ramp: neither the abort conditions nor the turn have anything to do. -/
def Descends (b : State) : Prop :=
  b.stc.state = .releasing → b.rsq.phase = .ramping ∧ b.ptb.abortPeer = false
    ∧ (b.crm.d - b.rsq.rollbackBase).natAbs < b.suc.vehicle.rollbackLimit

theorem Underway.testAbort {b x : State} (h : Underway b x) (hd : Descends b) : testAbort x = x := by
  have hr := state_of_resting h.resting
  unfold Machine.testAbort
  split
  · rename_i hx
    obtain ⟨-, h2, h3⟩ := hd (hr.symm.trans ((releaseInProgress_iff x).1 hx).1)
    have := rollbackTravel_le x.crm.downhill x.rsq.entryGear x.rsq.rollbackBase x.crm.d
    rw [if_neg, if_neg (by rw [h.abortPeer, h2]; simp)]
    simp only [rollsBack, decide_eq_true_eq, suc_of_steady h.steady]
    rw [← d_of_resting h.resting, ← h.rsq] at h3
    omega
  · rfl

theorem Underway.testTurn {b x : State} (h : Underway b x) (hd : Descends b) : testTurn x = x := by
  unfold Machine.testTurn
  rw [if_neg]
  simp only [Bool.and_eq_true, decide_eq_true_eq, h.rsq, state_of_resting h.resting]
  rintro ⟨⟨hs, hw⟩, -⟩
  have := (hd hs).1
  simp [this] at hw

/-- The end of the ramp is tested once all that stands before it is. -/
theorem Underway.reaches_ramp {b x : State} (h : Underway b x) (hd : Descends b) (ha : x.agenda.ramp = true) {n : Nat}
    (hn : 12 < n) : ∃ y, Underway b y ∧ Acts (testRamp y) (levels (drain n x)) := by
  obtain ⟨m, y, ⟨h1, -⟩, h2, h3, h4⟩ := drain_reaches (P := fun z => Underway b z ∧ z.agenda.ramp = true)
    (D := fun z => nextReport z = some (testRamp { z with agenda := { z.agenda with ramp := false } }))
    (fun z ⟨hz, ha⟩ => ⟨⟨hz.sync.1, by rw [hz.sync.2, ha]⟩, hz.sync.2⟩)
    (fun z ⟨hz, ha⟩ _ => by
      have hu := hz.undisturbed
      by_cases hx : z.agenda.exits = true ∨ z.agenda.plan = true
      · obtain ⟨y, k1, k2, k3, -, k5⟩ := hz.report hx
        exact .inr ⟨y, k1, ⟨k2, k5.trans ha⟩, k3⟩
      rw [not_or] at hx
      by_cases ht : z.agenda.abortTest = true
      · have k := hz.agenda { z.agenda with abortTest := false } rfl
        have e : nextReport z = some (Machine.testAbort { z with agenda := { z.agenda with abortTest := false } }) := by
          simp [nextReport, hz.quiet, hu.rollaways, hu.peerAlarms, hu.abortEvent, hx, ht]
        exact .inr ⟨_, e.trans (congrArg some (k.testAbort hd)), ⟨k, ha⟩, by simp [reportsLeft, ht]⟩
      by_cases hw : z.agenda.turn = true
      · have k := hz.agenda { z.agenda with turn := false } rfl
        have e : nextReport z = some (Machine.testTurn { z with agenda := { z.agenda with turn := false } }) := by
          simp [nextReport, hz.quiet, hu.rollaways, hu.peerAlarms, hu.abortEvent, hx, ht, hw]
        exact .inr ⟨_, e.trans (congrArg some (k.testTurn hd)), ⟨k, ha⟩, by simp [reportsLeft, hw]⟩
      · refine .inl ?_
        simp [nextReport, hz.quiet, hu.rollaways, hu.peerAlarms, hu.abortEvent, hx, ht, hw, ha])
    n x ⟨h, ha⟩ (Nat.lt_of_le_of_lt (reportsLeft_le _) hn)
  refine ⟨_, h1.agenda { y.agenda with ramp := false } rfl, ?_⟩
  rw [h4]
  exact acts_drain h2 h3

end Sys2Proof.Machine
end

section
/-! PROOFS. A pulse that rolls a release back (O51). -/

namespace Sys2Proof.Machine

set_option Elab.async false

/-- Without the watch a pulse moves the counts and the distance alone (R90, R96). -/
theorem crm_pulsed_unwatched {w : Wheel} {dir : Direction} {s : State} (hw : s.crm.watch = false) :
    (pulsed w dir s).crm = s.crm.pulse w dir s.suc.axle := by
  rw [counted_pulse, Crm.creepTest, if_neg]
  have : (s.crm.pulse w dir s.suc.axle).watch = false := hw
  simp [Crm.creeps, this]

/-- A pulse of a release leaves it under way, the abort conditions to be tested. -/
theorem underway_pulsed {w : Wheel} {dir : Direction} {s : State} (h : Settled s) (hc : Calm s) (hs : s.stc.state = .releasing)
    (hw : s.crm.watch = false) : Underway (sync (pulsed w dir s)) (sync (pulsed w dir s)) := by
  have hag : s.agenda = {} := h.1
  have e := pulsed_of_unwatched (w := w) (dir := dir) hw
  have hcrm := crm_pulsed_unwatched (w := w) (dir := dir) hw
  have hu : Undisturbed (pulsed w dir s) := by
    obtain ⟨h1, h2, h3, h4, h5, h6, h7, h8, h9⟩ := Undisturbed.of_calm hc hag
    rw [e]
    refine ⟨h1, h2, h3, h4, h5, h6, h7, fun hx => ?_, h9⟩
    rw [e] at hcrm
    rw [hcrm] at hx
    exact absurd (hw.symm.trans hx) Bool.false_ne_true
  refine underway_sync hu ?_ ?_ (.inl ((congrArg Stc.state (stc_pulsed w dir s)).trans hs)) <;> rw [e]
  · exact congrArg Agenda.ends hag
  · exact congrArg Agenda.yields hag

/-- A pulse that brings the travel to the limit aborts the release (R129). -/
theorem rollback_aborts {w : Wheel} {dir : Direction} {s : State} (h : Settled s) (hc : Calm s) (hs : s.stc.state = .releasing)
    (hp : s.rsq.phase ≠ .idle) (hw : s.crm.watch = false) (hd : s.crm.downhill = downhillOf s.hpl.g s.suc.vehicle.gMin)
    (hr : s.suc.vehicle.rollbackLimit
      ≤ rollbackTravel s.crm.downhill s.rsq.entryGear s.rsq.rollbackBase (s.crm.pulse w dir s.suc.axle).d) :
    Aborts .rollback s (settle (sync (pulsed w dir s))) := by
  have e := pulsed_of_unwatched (w := w) (dir := dir) hw
  obtain ⟨y, hy, r⟩ := (underway_pulsed (w := w) (dir := dir) h hc hs hw).reaches_abortTest (by rw [e]; rfl)
  have hcrm : (sync (pulsed w dir s)).crm = s.crm.pulse w dir s.suc.axle := crm_pulsed_unwatched hw
  have hrsq : y.rsq = s.rsq := by rw [hy.rsq, e]; rfl
  have hbs : (sync (pulsed w dir s)).stc.state = .releasing := (congrArg Stc.state (stc_pulsed w dir s)).trans hs
  have hys := (state_of_resting hy.resting).trans hbs
  have hsuc : y.suc = s.suc := by rw [suc_of_steady hy.steady, e]; rfl
  have hdown : y.crm.downhill = s.crm.downhill := by
    have hb : (sync (pulsed w dir s)).crm.downhill = s.crm.downhill := by rw [hcrm]; rfl
    have hg : (sync (pulsed w dir s)).hpl.g = s.hpl.g ∧ (sync (pulsed w dir s)).suc = s.suc := by rw [e]; exact ⟨rfl, rfl⟩
    obtain ⟨-, h1 | h1⟩ := hy.downhill hbs
    · exact h1.trans hb
    · rw [h1, hd, hg.1, hg.2]
  have hroll : rollsBack y = true := by
    simp only [rollsBack, decide_eq_true_eq]
    rw [hsuc, hdown, hrsq, d_of_resting hy.resting, hcrm]
    exact hr
  rw [testAbort, if_pos ((releaseInProgress_iff y).2 ⟨hys, by rw [hrsq]; exact hp⟩), if_pos hroll, abortRelease_eq] at r
  have hst : steady y = steady (pulse w dir s) := hy.steady.trans ((quietly_sync _).steady.trans (steady_pulsed w dir s))
  refine aborts_of_acts hys hy.undisturbed (by rw [hrsq]) ?_ hsuc (congrArg Steady.now hst) ?_ ?_ r (settle_settled _)
  · rw [eOwn_of_resting hy.resting, hcrm]
    rfl
  · exact (securing_of_steady (s := pulse w dir s) hst).trans rfl
  · exact (handoffReason_of_steady (s := pulse w dir s) hst).trans rfl

end Sys2Proof.Machine
end

section
/-! PROOFS. The chamber sample that finds the last step of a release profile ended (O51). -/

namespace Sys2Proof.Machine

set_option Elab.async false

/-! ### The last step ends (R81, R82) -/

/-- The evaluation of such a sample: nothing was left to end, or the second step ends. -/
theorem evaluate_lastStep {p steps : Nat} {s : State} (h : lastStepEnds p steps s = true) :
    ({ s.mod with pMeas := p } : Mod).evaluate.overrun = false
      ∧ ({ s.mod with pMeas := p } : Mod).evaluate.mod.outfit = s.mod.outfit
      ∧ ({ s.mod with pMeas := p } : Mod).evaluate.mod.sensed = ({ s.mod with pMeas := p } : Mod).sensed
      ∧ ((({ s.mod with pMeas := p } : Mod).evaluate.ended = none ∧ 2 ≤ steps)
        ∨ ∃ e, ({ s.mod with pMeas := p } : Mod).evaluate.ended = some e ∧ e.profileEnd = true ∧ steps = 1) := by
  simp only [lastStepEnds, Bool.and_eq_true, decide_eq_true_eq] at h
  obtain ⟨⟨hj, -⟩, h⟩ := h
  cases hf : s.mod.inFlight with
  | none =>
    rw [hf] at h
    have he : ({ s.mod with pMeas := p } : Mod).evaluate = { mod := ({ s.mod with pMeas := p } : Mod).commandValves } := by
      simp [Mod.evaluate, hf]
    rw [he]
    exact ⟨rfl, rfl, rfl, .inl ⟨rfl, by simpa using h⟩⟩
  | some f =>
    rw [hf] at h
    simp only [Bool.and_eq_true, decide_eq_true_eq] at h
    obtain ⟨⟨⟨h1, h2⟩, h3⟩, h⟩ := h
    by_cases ht : f.allowed ≤ f.elapsed
    · rw [if_pos ht, decide_eq_true_eq] at h
      have he : ({ s.mod with pMeas := p } : Mod).evaluate
          = { mod := ({ s.mod with pMeas := p } : Mod).moveOn (evaluated s.mod.join p f)
              ended := some ((evaluated s.mod.join p f).ending .unreached p) } := by
        unfold Mod.evaluate
        rw [show ({ s.mod with pMeas := p } : Mod).inFlight = some f from hf]
        exact (if_pos ht).trans (if_neg (Nat.not_lt.2 h))
      rw [he]
      exact ⟨rfl, Mod.outfit_moveOn _ _, Mod.sensed_moveOn _ _, .inr ⟨_, rfl, by simp [StepEnd.profileEnd, InFlight.ending, evaluated, h2], h1⟩⟩
    · rw [if_neg ht] at h
      simp only [Bool.and_eq_true, decide_eq_true_eq] at h
      obtain ⟨⟨hr, hp⟩, hb⟩ := h
      rw [evaluate_reached (m := { s.mod with pMeas := p }) hf (by omega) (hr.trans h3.symm)
        (by simp [hj]) (by simp only [distance]; omega) hb]
      exact ⟨rfl, Mod.outfit_moveOn _ _, Mod.sensed_moveOn _ _, .inr ⟨_, rfl, by simp [StepEnd.profileEnd, InFlight.ending, evaluated, h2], h1⟩⟩

/-! ### What follows leaves the standing part as it was -/

/-- What a report leaves as it was that may raise a flag. -/
structure Follows (s t : State) : Prop where
  steady : steady t = steady s
  standing : standing t = standing s
  outfit : t.mod.outfit = s.mod.outfit
  moves : s.ptb.vehicleStationary = false → t.ptb.vehicleStationary = false
  peers : s.ptb.abortPeer = false → peerAborts s = false → t.ptb.abortPeer = false

theorem Follows.of_quietly {s t : State} (q : Quietly s t) : Follows s t where
  steady := q.steady
  standing := q.standing
  outfit := q.outfit
  moves := fun h => moving_of_nearly h q.toNearly
  peers := fun h hp => Bool.eq_false_iff.2 fun ht => by
    rcases q.abortPeer ht with ha | ha
    · exact Bool.false_ne_true (h.symm.trans ha)
    · exact Bool.false_ne_true (hp.symm.trans ha)

theorem Follows.trans {s t u : State} (h : Follows s t) (k : Follows t u) : Follows s u where
  steady := k.steady.trans h.steady
  standing := k.standing.trans h.standing
  outfit := k.outfit.trans h.outfit
  moves := fun hs => k.moves (h.moves hs)
  peers := fun hs hp => k.peers (h.peers hs hp) (by rw [peerAborts_of_steady h.steady]; exact hp)

/-- A result of MOD taken, the end it reports taken from the agenda again. -/
def taken (r : ModResult) (s : State) : State :=
  { takeModResult r s with agenda := { (takeModResult r s).agenda with ends := [] } }

theorem takeModResult_of_fits {r : ModResult} (hv : r.overrun = false) (s : State) :
    takeModResult r s = (if r.ended.map StepEnd.outcome = some .unreached then raiseFault .stepUnreached else id)
      { s with mod := r.mod, agenda := { s.agenda with ends := s.agenda.ends ++ r.ended.toList } } := by
  unfold takeModResult
  dsimp only
  rw [if_neg (by simp [hv])]
  split <;> rfl

theorem follows_taken {r : ModResult} (hv : r.overrun = false) {s : State} (ho : r.mod.outfit = s.mod.outfit)
    (hm : r.mod.sensed = s.mod.sensed) : Follows s (taken r s) := by
  have hst := steady_takeModResult r s hm
  unfold taken
  rw [takeModResult_of_fits hv] at hst ⊢
  split at hst <;> rename_i hx
  · rw [if_pos hx]
    exact ⟨hst, rfl, ho, id, fun h _ => h⟩
  · rw [if_neg hx]
    exact ⟨hst, rfl, ho, id, fun h _ => h⟩

theorem undisturbed_taken {r : ModResult} (hv : r.overrun = false) {s : State} (h : Undisturbed s) : Undisturbed (taken r s) := by
  obtain ⟨h1, h2, h3, h4, h5, h6, h7, h8, h9⟩ := h
  unfold taken
  rw [takeModResult_of_fits hv]
  split
  · refine ⟨?_, h2, by simp, h4, h5, h6, h7, h8, h9⟩
    unfold failureRaised at h1 ⊢
    simpa [raiseFault, putFault, FaultSet.put] using h1
  · exact ⟨h1, h2, by simp, h4, h5, h6, h7, h8, h9⟩

/-- The steps of both profiles counted (R111, R127). -/
def counted (a b : Nat) (s : State) : State :=
  { s with hoe := { s.hoe with rampSteps := a }, rsq := { s.rsq with rampSteps := b } }

theorem Follows.counted {s t : State} (h : Follows s t) (a b : Nat) : Follows (counted a b s) (counted a b t) where
  steady := h.steady
  standing := congrArg (fun x : Standing =>
    { x with hoe := { x.hoe with rampSteps := a }, rsq := { x.rsq with rampSteps := b } }) h.standing
  outfit := h.outfit
  moves := h.moves
  peers := h.peers

/-- The end of a profile step is counted by each block whose ramp it is. -/
theorem countRampStep_of_profileEnd {e : StepEnd} (he : e.profileEnd = true) (s : State) :
    countRampStep e s = counted (if s.hoe.phase = .ramp then s.hoe.rampSteps + 1 else s.hoe.rampSteps)
      (if s.rsq.phase = .ramping then s.rsq.rampSteps + 1 else s.rsq.rampSteps) s := by
  simp only [countRampStep, he, Bool.true_and, decide_eq_true_eq]
  rfl

theorem Undisturbed.counted {s : State} (h : Undisturbed s) (a b : Nat) : Undisturbed (counted a b s) := by
  obtain ⟨h1, h2, h3, h4, h5, h6, h7, h8, h9⟩ := h
  exact ⟨h1, h2, h3, h4, h5, h6, h7, h8, h9⟩

/-- The blocks take the end of a profile step: it is counted, and nothing else stands otherwise. -/
theorem noteEnd_follows {e : StepEnd} (he : e.profileEnd = true) {s w : State} (h : Follows s w) (hu : Undisturbed w) :
    Follows (counted (if s.hoe.phase = .ramp then s.hoe.rampSteps + 1 else s.hoe.rampSteps)
      (if s.rsq.phase = .ramping then s.rsq.rampSteps + 1 else s.rsq.rampSteps) s) (noteEnd e w) ∧ Undisturbed (noteEnd e w) := by
  have q := quietly_limitedByEnd e w
  have ask (u : State) : Quietly u (askPlan (askExits (askAnswers (askRamp u)))) :=
    quietly_agenda _ _ (.of_agenda rfl rfl rfl rfl rfl rfl)
  have hv := h.trans (.of_quietly q)
  have e1 : (limitedByEnd e w).hoe.phase = s.hoe.phase := congrArg (fun x => x.hoe.phase) hv.standing
  have e2 : (limitedByEnd e w).hoe.rampSteps = s.hoe.rampSteps := congrArg (fun x => x.hoe.rampSteps) hv.standing
  have e3 : (limitedByEnd e w).rsq.phase = s.rsq.phase := congrArg (fun x => x.rsq.phase) hv.standing
  have e4 : (limitedByEnd e w).rsq.rampSteps = s.rsq.rampSteps := congrArg (fun x => x.rsq.rampSteps) hv.standing
  unfold noteEnd
  rw [countRampStep_of_profileEnd he, e1, e2, e3, e4]
  exact ⟨(hv.counted _ _).trans (.of_quietly (ask _)), ((hu.nearly q.toNearly).counted _ _).nearly (ask _).toNearly⟩

/-! ### The sample (R69) -/

/-- The ramp of which a sample may be the end, `steps` of its profile counted: the release in RELEASING, the hand-off in LEAVING. -/
structure Ramps (p steps : Nat) (s : State) : Prop where
  state : (s.stc.state = .releasing ∧ s.rsq.phase = .ramping ∧ s.rsq.rampSteps = steps)
    ∨ (s.stc.state = .leaving ∧ s.hoe.phase = .ramp ∧ s.hoe.rampSteps = steps)
  last : lastStepEnds p steps s = true

theorem Ramps.aside {p steps : Nat} {s : State} (h : Ramps p steps s) :
    s.stc.state = .releasing ∨ (s.stc.state = .leaving ∧ s.hoe.phase = .ramp) :=
  h.state.imp And.left fun ⟨h1, h2, _⟩ => ⟨h1, h2⟩

/-- Both steps of the profile have come to their end after a sample in `s`; the end of the ramp is to be tested. -/
structure RampDone (p : Nat) (s z : State) : Prop where
  underway : Underway z z
  ramp : z.agenda.ramp = true
  follows : ∃ a b, Follows (counted a b (sampled p s)) z ∧ (s.stc.state = .leaving → 2 ≤ a) ∧ (s.stc.state = .releasing → 2 ≤ b)

theorem ends_takeModResult (r : ModResult) (s : State) :
    (takeModResult r s).agenda.ends = s.agenda.ends ++ r.ended.toList := by
  unfold takeModResult
  dsimp only
  split <;> split <;> rfl

theorem agenda_noteEnd (e : StepEnd) (s : State) :
    (noteEnd e s).agenda = { s.agenda with ramp := true, answers := true, exits := true, plan := true } :=
  congrArg (fun a : Agenda => { a with ramp := true, answers := true, exits := true, plan := true }) (limitedByEnd_agenda e s {}).2

/-- A state that follows the sample, brought up to date. -/
theorem rampDone_sync {p steps a b : Nat} {s x : State} (hr : Ramps p steps s) (hu : Undisturbed x) (he : x.agenda.ends = [])
    (hy : x.agenda.yields = []) (hx : x.agenda.ramp = true) (hf : Follows (counted a b (sampled p s)) x)
    (ha : s.hoe.phase = .ramp → s.hoe.rampSteps = steps → 2 ≤ a)
    (hb : s.rsq.phase = .ramping → s.rsq.rampSteps = steps → 2 ≤ b) : RampDone p s (sync x) := by
  have hs : x.stc.state = .releasing ∨ (x.stc.state = .leaving ∧ x.hoe.phase = .ramp) := by
    have e1 := state_of_standing hf.standing
    have e2 : x.hoe.phase = s.hoe.phase := congrArg (fun x => x.hoe.phase) hf.standing
    rw [e1, e2]
    exact hr.aside
  refine ⟨underway_sync hu he hy hs, ?_, a, b, hf.trans (.of_quietly (quietly_sync x)), fun hs => ?_, fun hs => ?_⟩
  · exact hx
  · obtain ⟨hs', -⟩ | ⟨-, h1, h2⟩ := hr.state
    · cases hs.symm.trans hs'
    · exact ha h1 h2
  · obtain ⟨-, h1, h2⟩ | ⟨hs', -⟩ := hr.state
    · exact hb h1 h2
    · cases hs.symm.trans hs'

/-- The report of the second step's end, if it ends now, is the first of the sample. -/
theorem sample_done {p steps : Nat} {s : State} (h : Settled s) (hc : Calm s) (hr : Ramps p steps s) :
    ∃ n z, 12 < n ∧ settle (takePressure p s) = levels (drain n z) ∧ RampDone p s z := by
  have hag : s.agenda = {} := h.1
  have hu0 : Undisturbed (sampled p s) := by
    obtain ⟨h1, h2, h3, h4, h5, h6, h7, h8, h9⟩ := Undisturbed.of_calm hc hag
    exact ⟨h1, h2, h3, h4, h5, h6, h7, h8, h9⟩
  obtain ⟨x, y, d, hform⟩ := planEvent_form false hu0 (hr.state.imp And.left And.left)
  have q := quietly_planEvent false (sampled p s)
  have hu := hu0.nearly q.toNearly
  have hmod : (planEvent false (sampled p s)).mod = { s.mod with pMeas := p } := by rw [hform]; rfl
  have hends : (planEvent false (sampled p s)).agenda.ends = [] ∧ (planEvent false (sampled p s)).agenda.yields = [] := by
    rw [hform]
    exact ⟨congrArg Agenda.ends hag, congrArg Agenda.yields hag⟩
  rw [takePressure_eq h.agree.toSynced, hmod]
  generalize planEvent false (sampled p s) = c at q hu hmod hends
  obtain ⟨hv, ho, hm, ha⟩ := evaluate_lastStep hr.last
  generalize ({ s.mod with pMeas := p } : Mod).evaluate = r at hv ho hm ha
  have ask := quietly_agenda (taken r c) { (taken r c).agenda with ramp := true } (.of_agenda rfl rfl rfl rfl rfl rfl)
  have hut : Undisturbed (askRamp (taken r c)) := (undisturbed_taken hv hu).nearly ask.toNearly
  have hft : Follows (sampled p s) (askRamp (taken r c)) :=
    ((Follows.of_quietly q).trans (follows_taken hv (by rw [ho, hmod]; rfl) (by rw [hm, hmod]))).trans (.of_quietly ask)
  have hyt : (askRamp (taken r c)).agenda.yields = [] := by
    show (taken r c).agenda.yields = []
    unfold taken
    rw [takeModResult_of_fits hv]
    split <;> exact hends.2
  have het := ends_takeModResult r c
  rw [hends.1] at het
  rcases ha with ⟨ha, hk⟩ | ⟨e, ha, he, hk⟩
  · have ht : takeModResult r c = taken r c := by
      rw [ha] at het
      unfold taken
      rw [show ([] : List StepEnd) = (takeModResult r c).agenda.ends from het.symm]
    rw [ht, ← settle_sync]
    exact ⟨64, _, by decide, rfl, rampDone_sync (a := s.hoe.rampSteps) (b := s.rsq.rampSteps) hr hut rfl hyt rfl hft
      (fun _ h2 => by omega) (fun _ h2 => by omega)⟩
  · have hn : nextReport (sync (askRamp (takeModResult r c))) = some (takeEnd e (sync (askRamp (taken r c)))) := by
      have hends' : (sync (askRamp (takeModResult r c))).agenda.ends = [e] := by
        rw [ha] at het
        exact het
      unfold nextReport
      simp only [hends']
      rfl
    obtain ⟨k1, k2⟩ := noteEnd_follows he (hft.trans (.of_quietly (quietly_sync _))) (hut.nearly (quietly_sync _).toNearly)
    have k3 := agenda_noteEnd e (sync (askRamp (taken r c)))
    have k4 : (sync (askRamp (taken r c))).agenda.ends = [] ∧ (sync (askRamp (taken r c))).agenda.yields = [] := ⟨rfl, hyt⟩
    have hcs : (noteEnd e (sync (askRamp (taken r c)))).stc.state = s.stc.state :=
      (state_of_standing k1.standing).trans rfl
    rw [takeEnd_eq, takeUnparkEnd, if_neg (by
      rw [hcs]
      rcases hr.aside with hs | ⟨hs, -⟩ <;> simp [hs])] at hn
    generalize noteEnd e (sync (askRamp (taken r c))) = z at hn k1 k2 k3
    have hd : settle (askRamp (takeModResult r c)) = levels (drain 63 (sync z)) := by
      rw [drain_sync, settle]
      show levels (drain (63 + 1) _) = _
      rw [drain, hn]
    refine ⟨63, _, by decide, hd, rampDone_sync hr k2 (by rw [k3]; exact k4.1) (by rw [k3]; exact k4.2) (by rw [k3]) k1
      (fun h1 h2 => ?_) (fun h1 h2 => ?_)⟩
    · rw [if_pos (show (sampled p s).hoe.phase = .ramp from h1), show (sampled p s).hoe.rampSteps = _ from h2]
      omega
    · rw [if_pos (show (sampled p s).rsq.phase = .ramping from h1), show (sampled p s).rsq.rampSteps = _ from h2]
      omega

end Sys2Proof.Machine
end

section
/-! PROOFS. The ramp of a release or of a hand-off at its test, and the ends of a release (O51). -/

namespace Sys2Proof.Machine

set_option Elab.async false

/-! ### A state kept at the end of a ramp -/

/-- The leaver phase of a station that stays in FREE or SERVICE is idle where it was (R105). -/
theorem Stays.idle_run {s t : State} (hu : Undisturbed s) (h : Stays s)
    (hs : s.stc.state = .free ∨ s.stc.state = .service) (hp : s.hoe.phase = .idle) (r : Acts s t) :
    t.hoe.phase = .idle := by
  induction r with
  | refl => exact hp
  | tail r a ih =>
    obtain ⟨hu, h, hr⟩ := h.run hu r
    rw [← hr.state] at hs
    cases a with
    | quiet q => exact (congrArg (fun x => x.hoe.phase) q.standing).trans ih
    | followLift => rw [h.followLift, ih]
    | minor m _ =>
      cases m with
      | tendHandoff => simp [tendHandoff, ih]
      | deferAsk => rw [deferAsk, if_neg (by rcases hs with hs | hs <;> simp [hs]), ih]
      | testUnpark =>
        unfold testUnpark
        rw [if_neg (by rcases hs with hs | hs <;> simp [hs])]
        exact ih
      | succeed hx _ => simp [((exchanging_iff _).1 hx).1] at hs
      | _ => exact ih
    | ventService _ => exact (congrArg (fun x => x.hoe.phase) (nearly_joinTo .idleVent _).standing).trans ih
    | turn _ h _ => simp [h] at hs
    | succeed hx _ => simp [((exchanging_iff _).1 hx).1] at hs
    | moved r _ => exact absurd r (h.no_hop hu)

/-- The same after an entry. -/
theorem Stays.entered_idle {v t : State} (hu : Undisturbed v) (h : Stays v)
    (hs : v.stc.state = .free ∨ v.stc.state = .service) (hp : v.hoe.phase = .idle)
    (r : Acts (Machine.afterMove v) t) : t.hoe.phase = .idle := by
  have q := nearly_outputs v
  rw [h.afterMove hu] at r
  refine (h.nearly q).idle_run (hu.nearly q) ?_ ((congrArg (fun x => x.hoe.phase) q.standing).trans hp) r
  rwa [state_of_standing q.standing]

/-- A state without a park setting of its own keeps the setting it finds (R18). -/
theorem Stays.entered_park {v t : State} (hu : Undisturbed v) (h : Stays v) (hp : parkOf v.stc.origin v.stc.state = none)
    (r : Acts (Machine.afterMove v) t) : t.mod.parkCmd = v.mod.parkCmd := by
  have q := nearly_outputs v
  rw [h.afterMove hu] at r
  rw [← outputs_parkCmd_none hp]
  rcases ((h.nearly q).run (hu.nearly q) r).2.2.outfit with ho | ⟨-, ho⟩
  · exact congrArg Outfit.parkCmd ho
  · exact congrArg Outfit.parkCmd ho

/-- What is read of RSQ in a station at rest that is not waiting for its turn. -/
theorem idle_rsq_of_resting {s t : State} (h : resting t = resting s) (hs : s.rsq.phase = .idle) :
    ({ t.rsq with driveOffTimer := none, lapseTimer := none } : Rsq)
      = { s.rsq with driveOffTimer := none, lapseTimer := none } := by
  have hr : (resting t).rsq = { s.rsq with driveOffTimer := none, lapseTimer := none } := by
    rw [h]
    exact if_neg (by simp [hs])
  have ht : t.rsq.phase ≠ .waitingTurn := by
    intro ht
    have h1 : (resting t).rsq.phase = .ramping := by
      show (if t.rsq.phase = .waitingTurn then _ else _ : Rsq).phase = _
      rw [if_pos ht]
      rfl
    rw [hr] at h1
    cases hs.symm.trans h1
  rw [← hr]
  exact (if_neg ht).symm

theorem window_of_resting {s t : State} (h : resting t = resting s) :
    t.rsq.reholdWindow = s.rsq.reholdWindow ∧ t.rsq.releaseCompleted = s.rsq.releaseCompleted := by
  have e (u : State) : (resting u).rsq.reholdWindow = u.rsq.reholdWindow ∧ (resting u).rsq.releaseCompleted = u.rsq.releaseCompleted := by
    show (if u.rsq.phase = .waitingTurn then _ else _ : Rsq).reholdWindow = _
      ∧ (if u.rsq.phase = .waitingTurn then _ else _ : Rsq).releaseCompleted = _
    split <;> exact ⟨rfl, rfl⟩
  rw [← (e t).1, ← (e t).2, h]
  exact e s

/-- In FREE the LIFTED flag follows its lift bit (R16). -/
theorem followLift_free {s : State} (hs : s.stc.state = .free) :
    followLift s = { s with
      stc := { s.stc with
        lifted := liftAsked s
        loweringTimer := if s.stc.lifted = liftAsked s then s.stc.loweringTimer else if liftAsked s then none else some 3000 }
      agenda := { s.agenda with plan := s.agenda.plan || (s.stc.lifted != liftAsked s) } } := by
  by_cases h : s.stc.lifted = liftAsked s
  · rw [followLift_of_eq h, if_pos h, ← h, bne_self_eq_false, Bool.or_false]
  · have hb : (s.stc.lifted != liftAsked s) = true := bne_iff_ne.2 h
    rw [followLift, if_pos (by simp [hs, h]), if_neg h, hb, Bool.or_true]

theorem followLift_idem (s : State) : followLift (followLift s) = followLift s := by
  by_cases h : ((s.stc.state = .free || s.stc.state = .standstill) && (s.stc.lifted != liftAsked s)) = true
  · refine followLift_of_eq ?_
    rw [liftAsked_of_steady (steady_followLift s), followLift, if_pos h]
  · have e : followLift s = s := if_neg h
    rw [e, e]

/-- The chain begins with the LIFTED flag (R3, R16). -/
theorem afterMove_followLift (s : State) : afterMove (followLift s) = afterMove s := by
  have h : chain (9 + 1) (followLift s) = chain (9 + 1) s := by
    rw [chain, chain, followLift_idem]
  exact congrArg outputs h

/-! ### Above the end pressure -/

section

variable {p : Nat} {s z : State} (hz : RampDone p s z)

include hz

theorem RampDone.steady : steady z = steady (sampled p s) := by
  obtain ⟨a, b, h, -⟩ := hz.follows
  exact h.steady

theorem RampDone.pMeas : z.mod.pMeas = p := (pMeas_of_steady hz.steady).trans rfl

theorem RampDone.outfit : z.mod.outfit = s.mod.outfit := by
  obtain ⟨a, b, h, -⟩ := hz.follows
  exact h.outfit

theorem RampDone.state : z.stc.state = s.stc.state := by
  obtain ⟨a, b, h, -⟩ := hz.follows
  exact (state_of_standing h.standing).trans rfl

theorem RampDone.lift : liftAsked z = liftAsked s := (liftAsked_of_steady hz.steady).trans rfl

theorem RampDone.suc : z.suc = s.suc := (suc_of_steady hz.steady).trans rfl

/-- No peer comes to show RELEASE_ABORT by a sample. -/
theorem RampDone.abortPeer (h : Settled s) (ha : s.ptb.abortPeer = false) :
    z.ptb.abortPeer = false ∧ peerAborts z = false := by
  have hp : peerAborts s = false := (congrArg Ptb.abortPeer h.agree.table).trans ha
  obtain ⟨a, b, hf, -⟩ := hz.follows
  exact ⟨hf.peers ha hp, by rw [peerAborts_of_steady hf.steady]; exact hp⟩

/-- The ramp of a release whose pressure has not come down goes on (R127). -/
theorem RampDone.release_goes_on (h : Settled s) (hs : s.stc.state = .releasing) (hp : s.rsq.phase = .ramping)
    (ha : s.ptb.abortPeer = false) (hd : (s.crm.d - s.rsq.rollbackBase).natAbs < s.suc.vehicle.rollbackLimit) (hm : 20 < p) :
    Stays z := by
  obtain ⟨h1, h2⟩ := hz.abortPeer h ha
  obtain ⟨a, b, hf, -⟩ := hz.follows
  have e1 : z.rsq.phase = s.rsq.phase := congrArg (fun x => x.rsq.phase) hf.standing
  have e2 : z.rsq.rollbackBase = s.rsq.rollbackBase := congrArg (fun x => x.rsq.rollbackBase) hf.standing
  have e3 : z.crm.d = s.crm.d := congrArg (fun x => x.crm.d) hf.standing
  refine .releasing (hz.state.trans hs) (by simp [e1, hp]) h1 h2 (by rwa [e2, e3, hz.suc]) (.inl ?_)
  rwa [hz.pMeas]

theorem RampDone.handoff_goes_on (hs : s.stc.state = .leaving) (hp : s.hoe.phase = .ramp) (hm : 20 < p) : Stays z := by
  obtain ⟨a, b, hf, -⟩ := hz.follows
  have e1 : z.hoe.phase = s.hoe.phase := congrArg (fun x => x.hoe.phase) hf.standing
  exact .handingOff (hz.state.trans hs) (e1.trans hp) (by rw [hz.pMeas]; exact hm)

/-! ### At or below it -/

theorem RampDone.released {t : State} (h : Settled s) (hs : s.stc.state = .releasing) (hp : s.rsq.phase = .ramping)
    (ha : s.ptb.abortPeer = false) (hv : s.ptb.vehicleStationary = false) (hi : s.suc.inhibit = false) (hm : p ≤ 20) {y : State}
    (hy : Underway z y) (r : Acts (testRamp y) t) :
    t.stc.state = .free ∧ t.mod.join = .idleVent ∧ t.mod.parkCmd = true ∧ t.hpl.planLock = false
      ∧ t.rsq.phase = .idle ∧ t.rsq.entryGear = none ∧ t.rsq.releaseCompleted = some s.now
      ∧ t.rsq.reholdWindow = some 2000 ∧ t.stc.lifted = liftAsked s := by
  obtain ⟨a, b, hf, -, hb⟩ := hz.follows
  have hys : y.stc.state = .releasing := (state_of_resting hy.resting).trans (hz.state.trans hs)
  have e1 : z.rsq.phase = s.rsq.phase := congrArg (fun x => x.rsq.phase) hf.standing
  have e2 : z.rsq.rampSteps = b := congrArg (fun x => x.rsq.rampSteps) hf.standing
  have hst : Machine.steady y = Machine.steady (sampled p s) := hy.steady.trans hz.steady
  have hend : rampEnded y.rsq.rampSteps y = true := by
    simp only [rampEnded, Bool.and_eq_true, decide_eq_true_eq, hy.rsq, hy.mod, e2, hz.pMeas]
    exact ⟨hb hs, hm⟩
  rw [testRamp, if_neg (by simp [hys]), if_pos (by simp [hys, hend, show y.rsq.phase = .ramping by rw [hy.rsq, e1, hp]]), completeRelease_eq] at r
  have hrel : Machine.released y = _ := followLift_free (s := { enterState .free y with
    rsq := (enterState .free y).rsq.complete (enterState .free y).now }) rfl
  have hap : (Machine.released y).ptb.abortPeer = false := by
    rw [hrel]
    exact hy.abortPeer.trans (hz.abortPeer h ha).1
  rw [if_neg (by simp [reholds, hap])] at r
  have hu : Undisturbed (Machine.released y) := by
    refine Undisturbed.followLift ?_
    obtain ⟨h1, h2, h3, h4, h5, h6, h7, h8, h9⟩ := hy.undisturbed.enterState .free (by simp)
    exact ⟨h1, h2, h3, h4, h5, h6, h7, h8, h9⟩
  have hlift : liftAsked y = liftAsked s := (liftAsked_of_steady hst).trans rfl
  have hsuc : y.suc = s.suc := (suc_of_steady hst).trans rfl
  have hnow : y.now = s.now := (congrArg Steady.now hst).trans rfl
  have hstay : Stays (Machine.released y) := by
    have hvs : y.ptb.vehicleStationary = false := hy.stationary.trans (hf.moves hv)
    rw [hrel]
    exact .free rfl ((congrArg Suc.inhibit hsuc).trans hi) rfl (.inl hvs)
  have e := hstay.entered hu r
  have hq := idle_rsq_of_resting e.resting (by rw [hrel]; rfl)
  have hplan : t.hpl.planLock = (Machine.released y).hpl.planLock := congrArg Standing.planLock e.resting
  have hlifted : t.stc.lifted = (Machine.released y).stc.lifted := congrArg (fun x => x.stc.lifted) e.resting
  have hpark : parkOf (Machine.released y).stc.origin (Machine.released y).stc.state = some true := by rw [hrel]; rfl
  have hstate := state_of_resting e.resting
  have hjoin := e.join
  have hpk := e.park _ hpark
  rw [hrel] at hq hplan hlifted hstate hjoin
  exact ⟨hstate, hjoin, hpk, hplan, congrArg Rsq.phase hq, congrArg Rsq.entryGear hq,
    (congrArg Rsq.releaseCompleted hq).trans (congrArg some hnow), congrArg Rsq.reholdWindow hq, hlifted.trans hlift⟩

/-- The end of a hand-off ramp is tested, and found. -/
theorem RampDone.ramp_over {t : State} (hs : s.stc.state = .leaving) (hm : p ≤ 20) {y : State}
    (hy : Underway z y) (r : Acts (testRamp y) t) :
    Acts (Machine.afterMove (rampOver y)) t ∧ Machine.steady y = Machine.steady (sampled p s) ∧ y.stc.state = .leaving
      ∧ y.stc.leaveReason = s.stc.leaveReason ∧ y.rsq = z.rsq ∧ y.mod.outfit = s.mod.outfit
      ∧ z.rsq.reholdWindow = s.rsq.reholdWindow ∧ z.rsq.releaseCompleted = s.rsq.releaseCompleted := by
  obtain ⟨a, b, hf, ha, -⟩ := hz.follows
  have hys : y.stc.state = .leaving := (state_of_resting hy.resting).trans (hz.state.trans hs)
  have e1 : y.hoe.phase = .ramp := hy.aside.elim (fun h => by cases hys.symm.trans h) And.right
  have e2 : z.hoe.rampSteps = a := congrArg (fun x => x.hoe.rampSteps) hf.standing
  have e3 : y.hoe.rampSteps = z.hoe.rampSteps := congrArg (fun x => x.hoe.rampSteps) hy.resting
  have hend : rampEnded y.hoe.rampSteps y = true := by
    simp only [rampEnded, Bool.and_eq_true, decide_eq_true_eq, e3, hy.mod, e2, hz.pMeas]
    exact ⟨ha hs, hm⟩
  rw [testRamp, if_pos (by simp [hys, e1, hend]), endHandoffRamp_eq] at r
  exact ⟨r, hy.steady.trans hz.steady, hys, (congrArg (fun x => x.stc.leaveReason) hy.resting).trans
    (congrArg (fun x => x.stc.leaveReason) hf.standing), hy.rsq, by rw [hy.mod]; exact hz.outfit,
    congrArg (fun x => x.rsq.reholdWindow) hf.standing, congrArg (fun x => x.rsq.releaseCompleted) hf.standing⟩

/-- The hand-off of an inhibited station ends in SERVICE, the park valve as it was (R15, R18). -/
theorem RampDone.serves {t : State} (hs : s.stc.state = .leaving) (hm : p ≤ 20)
    (hl : s.stc.leaveReason = some .inhibit) (hi : s.suc.inhibit = true) {y : State} (hy : Underway z y)
    (r : Acts (testRamp y) t) :
    t.stc.state = .service ∧ t.mod.join = .idleVent ∧ t.mod.parkCmd = s.mod.parkCmd ∧ t.hoe.phase = .idle
      ∧ t.hoe.replies = Table.fill none := by
  obtain ⟨r, hst, hys, hyl, -, hyo, -⟩ := hz.ramp_over hs hm hy r
  have hv : rampOver y = enterState .service { y with hoe := { y.hoe with phase := .idle, replies := Table.fill none } } := by
    simp only [rampOver, hyl.trans hl]
  have hu : Undisturbed (rampOver y) := by
    rw [hv]
    refine Undisturbed.enterState ?_ .service (by simp)
    obtain ⟨h1, h2, h3, h4, h5, h6, h7, h8, h9⟩ := hy.undisturbed
    exact ⟨h1, h2, h3, h4, h5, h6, h7, h8, h9⟩
  have hsuc : y.suc = s.suc := (suc_of_steady hst).trans rfl
  have hstay : Stays (rampOver y) := by
    rw [hv]
    exact .service rfl ((congrArg Suc.inhibit hsuc).trans hi)
  have e := hstay.entered hu r
  have hphase := hstay.entered_idle hu (.inr (by rw [hv]; rfl)) (by rw [hv]; rfl) r
  have hpark := hstay.entered_park hu (by rw [hv]; rfl) r
  have hstate := state_of_resting e.resting
  have hjoin := e.join
  have hreplies : t.hoe.replies = (rampOver y).hoe.replies := congrArg (fun x => x.hoe.replies) e.resting
  rw [hv] at hstate hjoin hpark hreplies
  exact ⟨hstate, hjoin, hpark.trans (congrArg Outfit.parkCmd hyo), hphase, hreplies⟩

/-- The hand-off of an axle to be lifted ends in FREE with LIFTED set, which the lift bit may clear again at once (R15, R16). -/
theorem RampDone.lifts {t : State} (hs : s.stc.state = .leaving) (hm : p ≤ 20)
    (hl : s.stc.leaveReason = some .lift) (hi : s.suc.inhibit = false) (hv : s.ptb.vehicleStationary = false) {y : State}
    (hy : Underway z y) (r : Acts (testRamp y) t) :
    t.stc.state = .free ∧ t.mod.join = .idleVent ∧ t.mod.parkCmd = true ∧ t.hoe.phase = .idle
      ∧ t.hoe.replies = Table.fill none ∧ t.stc.lifted = liftAsked s
      ∧ t.stc.loweringTimer = (if liftAsked s then none else some 3000)
      ∧ t.rsq.reholdWindow = s.rsq.reholdWindow ∧ t.rsq.releaseCompleted = s.rsq.releaseCompleted := by
  obtain ⟨r, hst, hys, hyl, hyr, -, hw1, hw2⟩ := hz.ramp_over hs hm hy r
  rw [← afterMove_followLift] at r
  have hv0 : rampOver y = { enterState .free { y with hoe := { y.hoe with phase := .idle, replies := Table.fill none } } with
      stc := { (enterState .free y).stc with lifted := true, loweringTimer := none } } := by
    simp only [rampOver, hyl.trans hl]
    rfl
  have hfree : (rampOver y).stc.state = .free := by rw [hv0]; rfl
  have hu : Undisturbed (followLift (rampOver y)) := by
    refine Undisturbed.followLift ?_
    rw [hv0]
    obtain ⟨h1, h2, h3, h4, h5, h6, h7, h8, h9⟩ := hy.undisturbed
    obtain ⟨h1, h2, h3, h4, h5, h6, h7, h8, h9⟩ := Undisturbed.enterState
      (s := { y with hoe := { y.hoe with phase := .idle, replies := Table.fill none } })
      ⟨h1, h2, h3, h4, h5, h6, h7, h8, h9⟩ .free (by simp)
    exact ⟨h1, h2, h3, h4, h5, h6, h7, h8, h9⟩
  have hrel := followLift_free hfree
  have hlift : liftAsked (rampOver y) = liftAsked s := by
    rw [hv0]
    exact (liftAsked_of_steady hst).trans rfl
  have hlifted : liftAsked (followLift (rampOver y)) = liftAsked s := (liftAsked_of_steady (steady_followLift _)).trans hlift
  have hsuc : y.suc = s.suc := (suc_of_steady hst).trans rfl
  obtain ⟨a, b, hf, -⟩ := hz.follows
  generalize followLift (rampOver y) = v at hu r hlifted hrel
  rw [hlift, hv0] at hrel
  have hstay : Stays (v) := by
    have hvs : y.ptb.vehicleStationary = false := hy.stationary.trans (hf.moves hv)
    refine .free (by rw [hrel]; rfl) ?_ ?_ (.inl ?_)
    · rw [hrel]
      exact (congrArg Suc.inhibit hsuc).trans hi
    · rw [hlifted, hrel]
    · rw [hrel]
      exact hvs
  have e := hstay.entered hu r
  have hphase := hstay.entered_idle hu (.inl (by rw [hrel]; rfl)) (by rw [hrel]; rfl) r
  have hpark := e.park true (by rw [hrel]; rfl)
  have hstate := state_of_resting e.resting
  have hjoin := e.join
  have hreplies : t.hoe.replies = (v).hoe.replies := congrArg (fun x => x.hoe.replies) e.resting
  have hflag : t.stc.lifted = (v).stc.lifted := congrArg (fun x => x.stc.lifted) e.resting
  have htimer : t.stc.loweringTimer = (v).stc.loweringTimer :=
    congrArg (fun x => x.stc.loweringTimer) e.resting
  obtain ⟨g1, g2⟩ := window_of_resting e.resting
  have hrsq : (v).rsq = z.rsq := by
    rw [hrel, ← hyr]
    show y.rsq.enter y.stc.state .free (cabNow y).gear.move y.crm.d = _
    rw [hys]
    rfl
  rw [hrsq] at g1 g2
  rw [hrel] at hstate hjoin hreplies hflag htimer
  refine ⟨hstate, hjoin, hpark, hphase, hreplies, hflag, htimer.trans ?_, g1.trans hw1, g2.trans hw2⟩
  dsimp only
  cases liftAsked s <;> rfl

theorem RampDone.descends (h : Settled s) (hr : s.stc.state = .releasing → s.rsq.phase = .ramping ∧ s.ptb.abortPeer = false
    ∧ (s.crm.d - s.rsq.rollbackBase).natAbs < s.suc.vehicle.rollbackLimit) : Descends z := by
  intro hs
  obtain ⟨h1, h2, h3⟩ := hr (hz.state.symm.trans hs)
  obtain ⟨a, b, hf, -⟩ := hz.follows
  have e1 : z.rsq.phase = s.rsq.phase := congrArg (fun x => x.rsq.phase) hf.standing
  have e2 : z.rsq.rollbackBase = s.rsq.rollbackBase := congrArg (fun x => x.rsq.rollbackBase) hf.standing
  have e3 : z.crm.d = s.crm.d := congrArg (fun x => x.crm.d) hf.standing
  exact ⟨e1.trans h1, (hz.abortPeer h h2).1, by rwa [e2, e3, hz.suc]⟩

/-- A ramp that goes on does so to the end of the event. -/
theorem RampDone.goes_on {n : Nat} (hst : Stays z) (hj : s.mod.join = .release) :
    (levels (drain n z)).stc.state = s.stc.state ∧ (levels (drain n z)).mod.join = .release
      ∧ (s.rsq.phase = .ramping → (levels (drain n z)).rsq.phase = .ramping)
      ∧ (s.hoe.phase = .ramp → (levels (drain n z)).hoe.phase = .ramp) := by
  obtain ⟨-, -, k⟩ := hst.run hz.underway.undisturbed ((drain_acts n z).trans (acts_quiet (quietly_levels _)))
  obtain ⟨a, b, hf, -⟩ := hz.follows
  refine ⟨k.state.trans hz.state, ?_, fun hp => k.ramps ((congrArg (fun x => x.rsq.phase) hf.standing).trans hp), fun hp => ?_⟩
  · rcases k.outfit with ho | ⟨hs, -⟩
    · exact (congrArg Outfit.join ho).trans ((congrArg Outfit.join hz.outfit).trans hj)
    · rcases hz.underway.aside with h | ⟨h, -⟩ <;> cases hs.symm.trans h
  · have e1 : z.hoe.phase = .ramp := (congrArg (fun x => x.hoe.phase) hf.standing).trans hp
    have e2 : (if (levels (drain n z)).hoe.phase = .deferred then LeaverPhase.idle else (levels (drain n z)).hoe.phase) = .ramp :=
      (congrArg (fun x => x.hoe.phase) k.resting).trans (by rw [resting, e1]; rfl)
    split at e2
    · cases e2
    · exact e2

end

theorem join_of_lastStepEnds {p steps : Nat} {s : State} (h : lastStepEnds p steps s = true) : s.mod.join = .release := by
  simp only [lastStepEnds, Bool.and_eq_true, decide_eq_true_eq] at h
  exact h.1.1

/-! ### The sample -/

/-- A sample that finds the release at its last step (R127). -/
theorem release_sampled {c : Instr} {p : Nat} {s : State} (he : exec c s = .next (settle (takePressure p s))) (h : Settled s) (hc : Calm s) (hs : s.stc.state = .releasing)
    (hp : s.rsq.phase = .ramping) (ha : s.ptb.abortPeer = false)
    (hd : (s.crm.d - s.rsq.rollbackBase).natAbs < s.suc.vehicle.rollbackLimit) (hl : lastStepEnds p s.rsq.rampSteps s = true) :
    (p ≤ 20 → s.ptb.vehicleStationary = false → s.suc.inhibit = false → ∃ t, exec c s = .next t
        ∧ t.stc.state = .free ∧ t.mod.join = .idleVent ∧ t.mod.parkCmd = true ∧ t.hpl.planLock = false
        ∧ t.rsq.phase = .idle ∧ t.rsq.entryGear = none ∧ t.rsq.releaseCompleted = some s.now
        ∧ t.rsq.reholdWindow = some 2000 ∧ t.stc.lifted = liftAsked s)
      ∧ (20 < p → ∃ t, exec c s = .next t
        ∧ t.stc.state = .releasing ∧ t.rsq.phase = .ramping ∧ t.mod.join = .release) := by
  obtain ⟨n, z, hn, hx, hz⟩ := sample_done h hc ⟨.inl ⟨hs, hp, rfl⟩, hl⟩
  rw [hx] at he
  refine ⟨fun hm hv hi => ?_, fun hm => ?_⟩
  · obtain ⟨y, hy, r⟩ := hz.underway.reaches_ramp (hz.descends h fun _ => ⟨hp, ha, hd⟩) hz.ramp hn
    exact ⟨_, he, hz.released h hs hp ha hv hi hm hy r⟩
  · obtain ⟨k1, k2, k3, -⟩ := hz.goes_on (n := n) (hz.release_goes_on h hs hp ha hd hm) (join_of_lastStepEnds hl)
    exact ⟨_, he, k1.trans hs, k3 hp, k2⟩

/-- A sample that finds the hand-off ramp at its last step (R15, R111). -/
theorem handoff_sampled {c : Instr} {p : Nat} {s : State} (he : exec c s = .next (settle (takePressure p s))) (h : Settled s) (hc : Calm s) (hs : s.stc.state = .leaving)
    (hp : s.hoe.phase = .ramp) (hl : lastStepEnds p s.hoe.rampSteps s = true) :
    (p ≤ 20 → s.stc.leaveReason = some .lift → s.suc.inhibit = false → s.ptb.vehicleStationary = false →
        ∃ t, exec c s = .next t
        ∧ t.stc.state = .free ∧ t.mod.join = .idleVent ∧ t.mod.parkCmd = true ∧ t.hoe.phase = .idle
        ∧ t.hoe.replies = Table.fill none ∧ t.stc.lifted = liftAsked s
        ∧ t.stc.loweringTimer = (if liftAsked s then none else some 3000)
        ∧ t.rsq.reholdWindow = s.rsq.reholdWindow ∧ t.rsq.releaseCompleted = s.rsq.releaseCompleted)
      ∧ (p ≤ 20 → s.stc.leaveReason = some .inhibit → s.suc.inhibit = true → ∃ t, exec c s = .next t
        ∧ t.stc.state = .service ∧ t.mod.join = .idleVent ∧ t.mod.parkCmd = s.mod.parkCmd ∧ t.hoe.phase = .idle
        ∧ t.hoe.replies = Table.fill none)
      ∧ (20 < p → ∃ t, exec c s = .next t
        ∧ t.stc.state = .leaving ∧ t.hoe.phase = .ramp ∧ t.mod.join = .release) := by
  obtain ⟨n, z, hn, hx, hz⟩ := sample_done h hc ⟨.inr ⟨hs, hp, rfl⟩, hl⟩
  rw [hx] at he
  have hd : Descends z := hz.descends h fun hx => by cases hs.symm.trans hx
  obtain ⟨y, hy, r⟩ := hz.underway.reaches_ramp hd hz.ramp hn
  refine ⟨fun hm hr hi hv => ⟨_, he, hz.lifts hs hm hr hi hv hy r⟩, fun hm hr hi => ⟨_, he, hz.serves hs hm hr hi hy r⟩, fun hm => ?_⟩
  obtain ⟨k1, k2, -, k4⟩ := hz.goes_on (n := n) (hz.handoff_goes_on hs hp hm) (join_of_lastStepEnds hl)
  exact ⟨_, he, k1.trans hs, k4 hp, k2⟩

/-- Settles O51: each end is a first report, or the test of a ramp or of the abort conditions once nothing stands before it, and what
it enters is kept. -/
theorem releaseEnds : Obligations.ReleaseEnds := by
  refine ⟨fun s hs hp => ⟨lapse_aborts hs hp, fun hl => ?_⟩, fun s => ⟨abortFlag_clears, fun hw => ?_, fun hw => ?_⟩, ?_, ?_, ?_⟩
  · exact congrArg Host.Outcome.next (if_neg (by simp [timerRuns, hl]))
  · exact congrArg Host.Outcome.next (if_pos hw)
  · exact congrArg Host.Outcome.next (if_neg (by simp [timerRuns, hw]))
  · intro raw s p hp hlo hhi h hc
    have he : exec (.chamberPressureSample raw) s = .next (settle (takePressure p s)) := by
      rw [hp]
      exact exec_chamberPressureSample hlo hhi
    exact ⟨fun hs hr _ ha hd hl => release_sampled he h hc hs hr ha hd hl, fun hs hr hl => handoff_sampled he h hc hs hr hl⟩
  · intro w dir s h hc hs hp hw hd hr
    exact ⟨_, exec_wheelPulse w dir s, rollback_aborts h hc hs hp hw hd hr⟩
  · intro n o p e s ho hh h hc hp hb ha hn hw
    have hu := Undisturbed.of_calm hc h.1
    have hne : n ≠ own s := fun hx => hh.2 (by rw [ho, hx])
    have x := abortShown h hne hb ha hn
    have hx := exec_statusNotice ho hh hp
    refine ⟨fun hs hq => ⟨_, hx, x.aborts hu hs hq⟩, fun hs hr => ⟨fun hl ht => ⟨_, hx, x.holds hu hs hr hl ht hw⟩, fun hl hi hv => ?_⟩⟩
    exact ⟨_, hx, x.closes hu hs hr hl hi hv hw⟩

end Sys2Proof.Machine
end

section
/-! PROOFS. Which command writes which record (O17): the frame of every command, part by part. -/

namespace Sys2Proof.Machine

set_option Elab.async false

/-! ### The frame of a part of a command -/

/-- Only the parts that `W` names differ, and of the rest of the outside of the axle's own working nothing does. -/
structure WritesOnly (W : Part → Bool) (s t : State) : Prop where
  pending : t.pending = s.pending := by rfl
  now : t.now = s.now := by rfl
  rank : t.rsq.rank = s.rsq.rank := by rfl
  own : own t = own s := by rfl
  cab : W .cabRecord = false → t.ptb.cab = s.ptb.cab := by exact fun _ => rfl
  drum : W .drumRecord = false → t.ptb.drum = s.ptb.drum := by exact fun _ => rfl
  pressure : W .chamberPressure = false → t.mod.pMeas = s.mod.pMeas := by exact fun _ => rfl
  supply : W .supplyPressure = false → t.mod.pSup = s.mod.pSup ∧ t.mod.lastSupplyRaw = s.mod.lastSupplyRaw := by
    exact fun _ => ⟨rfl, rfl⟩
  accelerometer : W .accelerometerWindow = false → Part.accelerometerWindow.same s t := by
    exact fun _ => ⟨rfl, rfl, rfl, rfl⟩
  load : W .loadWindow = false → Part.loadWindow.same s t := by exact fun _ => ⟨rfl, rfl, rfl⟩
  standstill : W .standstillFlag = false → Part.standstillFlag.same s t := by exact fun _ => ⟨rfl, rfl⟩
  peers : W .peerEntries = false → ∀ n, n ≠ Machine.own s → entryOf t n = entryOf s n := by exact fun _ _ _ => rfl
  setup : W .setup = false → t.suc = s.suc := by exact fun _ => rfl
  cursor : W .cursor = false → t.dgr = s.dgr := by exact fun _ => rfl
  answer : W .diagnosticAnswer = false → t.lnk.diagSlot = s.lnk.diagSlot := by exact fun _ => rfl
  free : W .freeValues = false → t.freeCount = s.freeCount := by exact fun _ => rfl

section

variable {W : Part → Bool} {s t u : State}

theorem WritesOnly.same (h : WritesOnly W s t) (p : Part) (hp : W p = false) : p.same s t := by
  cases p with
  | cabRecord => exact h.cab hp
  | drumRecord => exact h.drum hp
  | chamberPressure => exact h.pressure hp
  | supplyPressure => exact h.supply hp
  | accelerometerWindow => exact h.accelerometer hp
  | loadWindow => exact h.load hp
  | standstillFlag => exact h.standstill hp
  | peerEntries => exact h.peers hp
  | setup => exact h.setup hp
  | cursor => exact h.cursor hp
  | diagnosticAnswer => exact h.answer hp
  | freeValues => exact h.free hp

theorem WritesOnly.refl (s : State) : WritesOnly W s s where

theorem WritesOnly.trans (h : WritesOnly W s t) (k : WritesOnly W t u) : WritesOnly W s u where
  pending := k.pending.trans h.pending
  now := k.now.trans h.now
  rank := k.rank.trans h.rank
  own := k.own.trans h.own
  cab := fun w => (k.cab w).trans (h.cab w)
  drum := fun w => (k.drum w).trans (h.drum w)
  pressure := fun w => (k.pressure w).trans (h.pressure w)
  supply := fun w => ⟨(k.supply w).1.trans (h.supply w).1, (k.supply w).2.trans (h.supply w).2⟩
  accelerometer := fun w => by
    obtain ⟨h1, h2, h3, h4⟩ := h.accelerometer w
    obtain ⟨k1, k2, k3, k4⟩ := k.accelerometer w
    exact ⟨k1.trans h1, k2.trans h2, k3.trans h3, k4.trans h4⟩
  load := fun w => by
    obtain ⟨h1, h2, h3⟩ := h.load w
    obtain ⟨k1, k2, k3⟩ := k.load w
    exact ⟨k1.trans h1, k2.trans h2, k3.trans h3⟩
  standstill := fun w => ⟨(k.standstill w).1.trans (h.standstill w).1, (k.standstill w).2.trans (h.standstill w).2⟩
  peers := fun w n hn => (k.peers w n (by rw [h.own]; exact hn)).trans (h.peers w n hn)
  setup := fun w => (k.setup w).trans (h.setup w)
  cursor := fun w => (k.cursor w).trans (h.cursor w)
  answer := fun w => (k.answer w).trans (h.answer w)
  free := fun w => (k.free w).trans (h.free w)

/-- The steady parts hold every part that a command may write. -/
theorem WritesOnly.of_steady (h : steady t = steady s) : WritesOnly W s t where
  pending := congrArg Steady.pending h
  now := congrArg Steady.now h
  rank := congrArg Steady.rank h
  own := own_of_steady h
  cab := fun _ => congrArg Steady.cab h
  drum := fun _ => congrArg Steady.drum h
  pressure := fun _ => congrArg (fun x => x.sensed.pMeas) h
  supply := fun _ => ⟨congrArg (fun x => x.sensed.pSup) h, congrArg (fun x => x.sensed.lastSupplyRaw) h⟩
  accelerometer := fun _ => ⟨congrArg (fun x => x.glu.accWindow) h, congrArg (fun x => x.glu.accAverage) h,
    congrArg (fun x => x.glu.ownGrade) h, congrArg (fun x => x.glu.accAnswering) h⟩
  load := fun _ => ⟨congrArg (fun x => x.glu.loadWindow) h, congrArg (fun x => x.glu.loadAverage) h,
    congrArg (fun x => x.glu.lastLoadRaw) h⟩
  standstill := fun _ => ⟨congrArg Steady.standstill h, congrArg Steady.standstillTimer h⟩
  peers := fun _ _ hn => peers_of_steady h hn
  setup := fun _ => congrArg Steady.suc h
  cursor := fun _ => congrArg Steady.dgr h
  answer := fun _ => congrArg (fun x => x.lnk.diagSlot) h
  free := fun _ => congrArg Steady.freeCount h

/-- What follows by operations that change no steady part writes nothing more. -/
theorem WritesOnly.then_steady (h : WritesOnly W s t) (e : steady u = steady t) : WritesOnly W s u := h.trans (.of_steady e)

theorem WritesOnly.settle (h : WritesOnly W s t) : WritesOnly W s (settle t) := h.then_steady (steady_settle t)

theorem WritesOnly.ite {p : Prop} [Decidable p] (h : p → WritesOnly W s t) (k : ¬ p → WritesOnly W s u) :
    WritesOnly W s (if p then t else u) := by
  split
  · exact h ‹_›
  · exact k ‹_›

/-- A part that `W` names may differ. -/
theorem permitted {b : Bool} {P : Prop} (h : b = true) : b = false → P := fun h' => by rw [h] at h'; cases h'

/-! ### Receiving a frame -/

/-- A return to ACTIVE leaves the slots and the counts of frames as they are (R154). -/
theorem recover_keeps (l : Lnk) :
    l.recover.diagSlot = l.diagSlot ∧ l.recover.handoffSlot = l.handoffSlot ∧ l.recover.statusPending = l.statusPending
      ∧ l.recover.unclaimed = l.unclaimed ∧ l.recover.validFrames = l.validFrames := by
  unfold Lnk.recover
  split <;> exact ⟨rfl, rfl, rfl, rfl, rfl⟩

/-- A frame heard is counted, and leaves the slots and the unclaimed frames as they are (R147). -/
theorem heard_keeps (l : Lnk) :
    l.heard.diagSlot = l.diagSlot ∧ l.heard.handoffSlot = l.handoffSlot ∧ l.heard.statusPending = l.statusPending
      ∧ l.heard.unclaimed = l.unclaimed ∧ l.heard.validFrames = satInc 65535 l.validFrames :=
  recover_keeps _

theorem WritesOnly.heard (s : State) : WritesOnly W s { s with lnk := s.lnk.heard } where
  answer := fun _ => (heard_keeps s.lnk).1

theorem WritesOnly.countUnclaimed (s : State) : WritesOnly W s (countUnclaimed s) where

theorem steady_afterCause (c : AlarmCause) (s : State) (b : Bool) :
    steady (if b then afterMove (takeAlarmCause c s) else takeAlarmCause c s) = steady s := by
  cases b <;> simp

theorem WritesOnly.deliverAlarm (n : StationNo) (p : List Byte) (s : State) : WritesOnly W s (deliverAlarm n p s) := by
  unfold Machine.deliverAlarm
  split
  · exact .of_steady ((steady_afterCause _ _ _).trans (steady_callStatus s))
  · exact .countUnclaimed s

theorem WritesOnly.takeForeign (alarm : Option (List Byte)) (s : State) : WritesOnly W s (takeForeign alarm s) := by
  have h : WritesOnly W s (raiseFault .duplicateId { s with ptb := { s.ptb with lastDuplicate := some s.now } }) := {}
  unfold Machine.takeForeign
  dsimp only
  split
  · exact h.trans (.deliverAlarm _ _ _)
  · exact h

/-- A frame received writes what its delivery writes. -/
theorem WritesOnly.receiveFrom (o : Origin) (alarm : Option (List Byte)) {deliver : State → State}
    (h : ∀ t, WritesOnly W t (deliver t)) (s : State) : WritesOnly W s (receiveFrom o alarm deliver s) :=
  .ite (fun _ => .ite (fun _ => ((WritesOnly.heard s).trans (.takeForeign _ _)).settle)
    (fun _ => (WritesOnly.heard s).trans (h _))) (fun _ => .refl s)

/-! ### The sensors -/

theorem WritesOnly.slipComparison (s : State) : WritesOnly W s (slipComparison s) := by
  have hs : (s.crm.slipSample (looksForSlip s) s.glu.accAverage).standstill = s.crm.standstill
      ∧ (s.crm.slipSample (looksForSlip s) s.glu.accAverage).standstillTimer = s.crm.standstillTimer := by
    unfold Crm.slipSample
    dsimp only
    (repeat' split) <;> exact ⟨rfl, rfl⟩
  unfold Machine.slipComparison
  dsimp only
  split <;> exact { standstill := fun _ => hs }

/-- The read of the accelerometer leaves the load window as it is. -/
theorem load_answered (r : Int) (b : Bool) (a : Option AxleParams) (g : Glu) :
    (g.answered r b a).loadWindow = g.loadWindow ∧ (g.answered r b a).loadAverage = g.loadAverage
      ∧ (g.answered r b a).lastLoadRaw = g.lastLoadRaw := by
  unfold Glu.answered
  split
  · split <;> exact ⟨rfl, rfl, rfl⟩
  · exact ⟨rfl, rfl, rfl⟩

theorem WritesOnly.sampleAccelerometer (hw : W .accelerometerWindow = true) (r : Option Int) (s : State) :
    WritesOnly W s (sampleAccelerometer r s) := by
  cases r with
  | some x => exact { accelerometer := permitted hw, load := fun _ => load_answered _ _ _ _ }
  | none => exact { accelerometer := permitted hw }

/-- A load sample leaves the accelerometer window as it is. -/
theorem accelerometer_loadSample (raw : BitVec 12) (b : Bool) (a : Option AxleParams) (g : Glu) :
    (g.loadSample raw b a).accWindow = g.accWindow ∧ (g.loadSample raw b a).accAverage = g.accAverage
      ∧ (g.loadSample raw b a).ownGrade = g.ownGrade ∧ (g.loadSample raw b a).accAnswering = g.accAnswering := by
  unfold Glu.loadSample
  dsimp only
  (repeat' split) <;> exact ⟨rfl, rfl, rfl, rfl⟩

theorem WritesOnly.sampleLoad (hw : W .loadWindow = true) (raw : BitVec 12) (s : State) :
    WritesOnly W s (sampleLoad raw s) := by
  have h : WritesOnly W s { s with glu := s.glu.loadSample raw s.stc.faults.loadSensor s.suc.axle } :=
    { accelerometer := fun _ => accelerometer_loadSample _ _ _ _, load := permitted hw }
  exact .ite (fun _ => h.then_steady (steady_raiseFault _ _)) (fun _ => h)

theorem steady_evaluated (s : State) : steady (takeModResult s.mod.evaluate s) = steady s :=
  steady_takeModResult _ _ (Mod.sensed_evaluate _)

theorem WritesOnly.takePressure (hw : W .chamberPressure = true) (p : Nat) (s : State) :
    WritesOnly W s (takePressure p s) := by
  have h : WritesOnly W s (runLimitTimer { s with mod := { s.mod with pMeas := p } }) := { pressure := permitted hw }
  exact ((h.then_steady (steady_sync _)).then_steady (steady_planEvent _ _)).then_steady (steady_evaluated _)

theorem WritesOnly.pulse (hw : W .accelerometerWindow = true) (hf : W .standstillFlag = true) (w : Wheel) (d : Direction)
    (s : State) : WritesOnly W s (pulseReports s (rollawayTest (pulse w d s))) := by
  have h : WritesOnly W s (Machine.pulse w d s) :=
    { accelerometer := permitted hw
      standstill := permitted hf
      load := fun _ => by unfold Machine.pulse Part.same; dsimp only; split <;> exact ⟨rfl, rfl, rfl⟩ }
  exact (h.then_steady (steady_rollawayTest _)).then_steady rfl

/-- The parameters found valid write the set-up, and of MOD the springs alone (R87). -/
theorem WritesOnly.takeParameters (hw : W .setup = true) (l : List Word16) (s : State) :
    WritesOnly W s (takeParameters l s) := by
  have h (x : Bool) (a : AxleParams) (n : Word32) (m : Mod) : (m.springsAtStart x a n).sensed = m.sensed := by
    unfold Mod.springsAtStart
    (repeat' split) <;> rfl
  have k := h s.suc.spring (readAxle l) s.now s.mod
  exact
    { pressure := fun _ => congrArg Sensed.pMeas k
      supply := fun _ => ⟨congrArg Sensed.pSup k, congrArg Sensed.lastSupplyRaw k⟩
      setup := permitted hw }

/-! ### The received notices -/

theorem steady_cabReports (x : CabChange) (s : State) : steady (cabReports x s) = steady s := by
  show steady (if x.handControls then setPlanPending s else s) = steady s
  split
  · exact steady_setPlanPending s
  · rfl

theorem steady_armAcknowledgement (s : State) : steady (armAcknowledgement s) = steady s := by
  unfold armAcknowledgement
  split <;> rfl

theorem steady_testAcknowledgement (s : State) : steady (testAcknowledgement s) = steady s := by
  unfold testAcknowledgement acknowledge
  split
  · exact steady_moveTo _ _
  · rfl

theorem WritesOnly.takeCab (hw : W .cabRecord = true) (p : List Byte) (s : State) : WritesOnly W s (takeCab p s) := by
  have h : WritesOnly W s (writeCab p s) := { cab := permitted hw }
  exact (((h.then_steady (steady_cabReports _ _)).then_steady (steady_armAcknowledgement _)).then_steady
    (steady_testAcknowledgement _)).settle

theorem WritesOnly.withDrum (hw : W .drumRecord = true) (d : DrumRecord) (s : State) : WritesOnly W s (withDrum d s) := by
  have h : WritesOnly W s { s with ptb := { s.ptb with drum := d } } := { drum := permitted hw }
  exact (h.then_steady (by unfold askPlanIf; split <;> rfl)).settle

/-- An entry written, whatever becomes of its leaver's records. -/
theorem WritesOnly.takeStatus (hw : W .peerEntries = true) (n : StationNo) (e : Entry) (s : State) :
    WritesOnly W s (takeStatus n e s) := by
  have h (x : Entry) : WritesOnly W s (setEntry n x s) := { peers := permitted hw }
  exact ((h _).then_steady (by unfold endReplier; split <;> rfl)).settle

theorem WritesOnly.dropEntry (hw : W .peerEntries = true) (n : StationNo) (e : Entry) (s : State) :
    WritesOnly W s (dropEntry n e s) :=
  WritesOnly.settle { peers := permitted hw }

theorem steady_answerNow (m : StationNo) (b : Bool) (s : State) : steady (answerNow m b s) = steady s := by
  unfold answerNow
  split <;> rfl

theorem WritesOnly.takeRequest (hw : W .peerEntries = true) (m : StationNo) (q : RequestBody) (s : State) :
    WritesOnly W s (takeRequest m q s) := by
  have h (x : Entry) : WritesOnly W s (setEntry m x s) := { peers := permitted hw }
  exact WritesOnly.settle (.ite (fun _ => (h _).then_steady rfl) (fun _ => (h _).then_steady (steady_answerNow _ _ _)))

theorem WritesOnly.takeReply (q : ReplyBody) (s : State) : WritesOnly W s (takeReply q s) :=
  WritesOnly.settle (.ite (fun _ => .of_steady ((steady_afterMove _).trans (steady_failExchange _))) (fun _ => {}))

theorem WritesOnly.takeCancel (hw : W .peerEntries = true) (m : StationNo) (s : State) : WritesOnly W s (takeCancel m s) :=
  WritesOnly.settle { peers := permitted hw }

theorem WritesOnly.takeConfig (hw : W .setup = true) (p : List Byte) (s : State) : WritesOnly W s (takeConfig p s) := by
  have h : WritesOnly W s (askPlan (askExits { s with suc := s.suc.accept p })) := { setup := permitted hw }
  refine .ite (fun _ => .ite (fun _ => .refl s) (fun _ => ?_)) (fun _ => .ite (fun _ => ?_) (fun _ => .countUnclaimed s))
  · exact ((WritesOnly.countUnclaimed s).then_steady (steady_raiseFault _ _)).settle
  · exact WritesOnly.settle (.ite (fun _ => h) (fun _ => h.then_steady (steady_raiseFault _ _)))

/-! ### The link and the answers -/

theorem WritesOnly.loseLink (s : State) : WritesOnly W s (loseLink s) where

theorem WritesOnly.failAttempt (s : State) : WritesOnly W s (failAttempt s) := by
  have h : WritesOnly W s { s with lnk := s.lnk.fail } := {}
  exact h.trans (.ite (fun _ => .refl _) (fun _ => .ite (fun _ => .loseLink _) (fun _ => .ite (fun _ => {}) (fun _ => .refl _))))

/-- An answer writes its slot and a free value, and a request not for this station neither. -/
theorem WritesOnly.placed (hw : W .diagnosticAnswer = true) (hf : W .freeValues = true) (q : DiagRequest) (r : DiagResult)
    (l : Option Bool) (v : Option Word32) (s : State) : WritesOnly W s (Machine.answer q r l v s) where
  answer := permitted hw
  free := permitted hf

theorem WritesOnly.diagDeliver (q : DiagRequest) {f : State → State} (h : ∀ t, WritesOnly W t (f t)) (s : State) :
    WritesOnly W s (diagDeliver q f s) :=
  .receiveFrom _ _ (fun t => .ite (fun _ => h t) (fun _ => .countUnclaimed t)) s

theorem WritesOnly.readItem (hw : W .diagnosticAnswer = true) (hf : W .freeValues = true) (q : DiagRequest) (s : State) :
    WritesOnly W s (readItem q s) := by
  unfold Machine.readItem
  split
  · split <;> exact .placed hw hf _ _ _ _ s
  · split <;> exact .placed hw hf _ _ _ _ s

theorem WritesOnly.clearItem (hw : W .diagnosticAnswer = true) (hf : W .freeValues = true) (q : DiagRequest) (s : State) :
    WritesOnly W s (clearItem q s) := by
  have clear (f : Flag) : WritesOnly W s (if s.stc.faults.get f then clearFlag f s else s) :=
    .ite (fun _ => .ite (fun _ => .refl s) (fun _ => .of_steady rfl)) (fun _ => .refl s)
  unfold Machine.clearItem
  split
  · exact ((clear _).trans (.placed hw hf _ _ _ _ _)).settle
  · exact .placed hw hf _ _ _ _ s

theorem WritesOnly.takeTest (hw : W .diagnosticAnswer = true) (hf : W .freeValues = true) (q : DiagRequest) (s : State) :
    WritesOnly W s (takeTest q s) := by
  have h : WritesOnly W s (appendSteps .test [testStep q] (joinTo .test s)) :=
    .of_steady ((steady_appendSteps _ _ _).trans (steady_joinTo _ _))
  refine .ite (fun _ => WritesOnly.settle ?_) (fun _ => .placed hw hf _ _ _ _ s)
  exact .ite (fun _ => h.trans (.placed hw hf _ _ _ _ _)) (fun _ => h.trans (.placed hw hf _ _ _ _ _))

theorem WritesOnly.readRecord (hw : W .diagnosticAnswer = true) (hf : W .freeValues = true) (hc : W .cursor = true)
    (q : DiagRequest) (s : State) : WritesOnly W s (readRecord q s) := by
  have cursor (k : Cursor) (u : State) : WritesOnly W u (answerFromCursor q k u) := by
    unfold answerFromCursor
    split
    · exact { answer := permitted hw }
    · exact .placed hw hf _ _ _ _ u
  have opened : WritesOnly W s (openCursor q.item.toNat s) := { cursor := permitted hc, free := permitted hf }
  refine .ite (fun _ => .ite (fun _ => opened.trans (cursor _ _)) (fun _ => ?_)) (fun _ => .placed hw hf _ _ _ _ s)
  split
  · exact .ite (fun _ => cursor _ s) (fun _ => .placed hw hf _ _ _ _ s)
  · exact .placed hw hf _ _ _ _ s

end

/-! ### Every command -/

theorem steady_askPlan (s : State) : steady (askPlan s) = steady s := rfl
theorem steady_askAnswers (s : State) : steady (askAnswers s) = steady s := rfl

theorem steady_holdTimeReached (s : State) : steady (holdTimeReached s) = steady s := by
  unfold holdTimeReached
  split
  · exact steady_moveTo _ _
  · rfl
  · rfl

theorem steady_decreaseWaitOver (s : State) : steady (decreaseWaitOver s) = steady s := by
  unfold decreaseWaitOver
  dsimp only
  split
  · exact steady_submitTarget _
  · rfl

theorem steady_nextAttempt (s : State) : steady (nextAttempt s) = steady s := by
  unfold nextAttempt
  split
  · rfl
  · exact (steady_afterMove _).trans (steady_failExchange s)

/-- Every command but RESET writes only the parts that are its own. -/
theorem exec_writesOnly (c : Instr) (s : State) (h : notReset c = true) :
    ∃ t, exec c s = .next t ∧ WritesOnly (writes c) s t := by
  cases c with
  | reset p => cases h
  | parameterMemoryReadEnd bytes ending =>
    refine ⟨_, rfl, .ite (fun _ => WritesOnly.settle (.ite (fun _ => ?_) (fun _ => ?_))) (fun _ => .refl s)⟩
    · exact .takeParameters rfl _ s
    · exact { setup := permitted rfl }
  | configWaitExpiry =>
    exact ⟨_, rfl, .ite (fun _ => WritesOnly.settle { setup := permitted rfl }) (fun _ => .refl s)⟩
  | inhibitSample a =>
    exact ⟨_, rfl, .ite (fun _ => { setup := permitted rfl }) (fun _ => WritesOnly.settle { setup := permitted rfl })⟩
  | accelerometerSample r =>
    exact ⟨_, rfl, (((WritesOnly.sampleAccelerometer rfl r s).trans (.slipComparison _)).then_steady (steady_askPlan _)).settle⟩
  | loadSample raw => exact ⟨_, rfl, ((WritesOnly.sampleLoad rfl raw s).then_steady (steady_askPlan _)).settle⟩
  | chamberPressureSample raw =>
    have h1 : WritesOnly (writes (.chamberPressureSample raw)) s (faultStep s) := .of_steady (steady_faultStep s)
    refine ⟨_, rfl, WritesOnly.settle (.ite (fun _ => ?_) (fun _ => .takePressure rfl _ s))⟩
    exact (h1.then_steady (steady_raiseFault _ _)).then_steady (steady_askPlan _)
  | supplySample raw =>
    have h1 : WritesOnly (writes (.supplySample raw)) s { s with mod := s.mod.sampleSupply raw } :=
      { supply := permitted rfl }
    refine ⟨_, rfl, WritesOnly.settle (WritesOnly.then_steady ?_ (steady_askPlan _))⟩
    exact .ite (fun _ => h1.then_steady (steady_raiseFault _ _)) (fun _ => h1)
  | valveDriverFault d r =>
    exact ⟨_, rfl, ((WritesOnly.of_steady (steady_faultStep s)).then_steady (steady_raiseFault _ _)).settle⟩
  | wheelPulse w d => exact ⟨_, rfl, (WritesOnly.pulse rfl rfl w d s).settle⟩
  | standstillTimerExpiry =>
    exact ⟨_, rfl, .ite (fun _ => WritesOnly.settle { standstill := permitted rfl }) (fun _ => .refl s)⟩
  | vehicleStationaryTimerExpiry => exact ⟨_, rfl, .ite (fun _ => WritesOnly.settle {}) (fun _ => .refl s)⟩
  | springApplyTimerExpiry =>
    refine ⟨_, rfl, .ite (fun _ => WritesOnly.settle (.of_steady ?_)) (fun _ => .refl s)⟩
    unfold askPlanIf
    split <;> rfl
  | holdTimeTimerExpiry =>
    have h1 : WritesOnly (writes .holdTimeTimerExpiry) s { s with stc := { s.stc with holdTimer := none } } := {}
    exact ⟨_, rfl, .ite (fun _ => (h1.then_steady (steady_holdTimeReached _)).settle) (fun _ => .refl s)⟩
  | loweringTimerExpiry => exact ⟨_, rfl, .ite (fun _ => WritesOnly.settle {}) (fun _ => .refl s)⟩
  | plausibilityTimerExpiry => exact ⟨_, rfl, .ite (fun _ => WritesOnly.settle {}) (fun _ => .refl s)⟩
  | limitTimerExpiry =>
    exact ⟨_, rfl, .ite (fun _ => (WritesOnly.of_steady (steady_setLimited _ s)).settle) (fun _ => .refl s)⟩
  | decreaseWaitExpiry =>
    have h1 := WritesOnly.of_steady (W := writes .decreaseWaitExpiry) (steady_decreaseWaitOver s)
    exact ⟨_, rfl, .ite (fun _ => (h1.then_steady (steady_askAnswers _)).settle) (fun _ => .refl s)⟩
  | cabNotice o p =>
    exact ⟨_, rfl, .receiveFrom _ _ (fun t => .ite (fun _ => .takeCab rfl p t) (fun _ => .countUnclaimed t)) s⟩
  | cabRecordStaling =>
    have h1 : WritesOnly (writes .cabRecordStaling) s
        { s with ptb := { s.ptb with cab := { s.ptb.cab with fresh := false, staleTimer := none } } } :=
      { cab := permitted rfl }
    exact ⟨_, rfl, .ite (fun _ => ((h1.then_steady (steady_cabReports _ _)).then_steady (steady_armAcknowledgement _)).settle)
      (fun _ => .refl s)⟩
  | drumNotice o p =>
    exact ⟨_, rfl, .receiveFrom _ _ (fun t => .ite (fun _ => .withDrum rfl _ t) (fun _ => .countUnclaimed t)) s⟩
  | drumRecordStaling => exact ⟨_, rfl, .ite (fun _ => .withDrum rfl _ s) (fun _ => .refl s)⟩
  | statusNotice o p =>
    refine ⟨_, rfl, .receiveFrom _ _ (fun t => ?_) s⟩
    split
    · exact .takeStatus rfl _ _ t
    · exact .countUnclaimed t
  | entryStalenessDeadline n => exact ⟨_, rfl, .ite (fun _ => .dropEntry rfl _ _ s) (fun _ => .refl s)⟩
  | entryAbsent n => exact ⟨_, rfl, .ite (fun _ => .dropEntry rfl _ _ s) (fun _ => .refl s)⟩
  | alarmNotice o p =>
    refine ⟨_, rfl, .receiveFrom _ _ (fun t => ?_) s⟩
    split
    · exact (WritesOnly.deliverAlarm _ p t).settle
    · exact .countUnclaimed t
  | handoffRequest o b =>
    refine ⟨_, rfl, .receiveFrom _ _ (fun t => ?_) s⟩
    split
    · exact .ite (fun _ => .ite (fun _ => .takeRequest rfl _ _ t) (fun _ => .refl t)) (fun _ => .countUnclaimed t)
    · exact .countUnclaimed t
  | handoffReply o b =>
    refine ⟨_, rfl, .receiveFrom _ _ (fun t => ?_) s⟩
    split
    · exact .ite (fun _ => .ite (fun _ => .takeReply _ t) (fun _ => .refl t)) (fun _ => .countUnclaimed t)
    · exact .countUnclaimed t
  | handoffCancel o b =>
    refine ⟨_, rfl, .receiveFrom _ _ (fun t => ?_) s⟩
    split
    · exact .ite (fun _ => .takeCancel rfl _ t) (fun _ => .countUnclaimed t)
    · exact .countUnclaimed t
  | attemptTimerExpiry =>
    exact ⟨_, rfl, .ite (fun _ => (WritesOnly.of_steady (steady_nextAttempt s)).settle) (fun _ => .refl s)⟩
  | retryWaitExpiry => exact ⟨_, rfl, .ite (fun _ => WritesOnly.settle {}) (fun _ => .refl s)⟩
  | driveOffTimerExpiry =>
    exact ⟨_, rfl, .ite (fun _ => WritesOnly.settle (.ite (fun _ => .of_steady (steady_moveTo _ _)) (fun _ => {})))
      (fun _ => .refl s)⟩
  | turnTimerExpiry =>
    exact ⟨_, rfl, .ite (fun _ => WritesOnly.settle (.ite (fun _ => .of_steady (steady_takeTurn _)) (fun _ => {})))
      (fun _ => .refl s)⟩
  | lapseTimerExpiry =>
    exact ⟨_, rfl, .ite (fun _ => WritesOnly.settle (.ite (fun _ => .of_steady (steady_abortRelease _ _)) (fun _ => {})))
      (fun _ => .refl s)⟩
  | abortFlagTimerExpiry => exact ⟨_, rfl, .ite (fun _ => WritesOnly.settle {}) (fun _ => .refl s)⟩
  | reholdWindowExpiry => exact ⟨_, rfl, .ite (fun _ => {}) (fun _ => .refl s)⟩
  | configNotice o p =>
    exact ⟨_, rfl, .receiveFrom _ _ (fun t => .ite (fun _ => .takeConfig rfl p t) (fun _ => .countUnclaimed t)) s⟩
  | foreignOwnOriginFrame k p => exact ⟨_, rfl, .receiveFrom _ _ (fun t => .refl t) s⟩
  | invalidFrame r => exact ⟨_, rfl, .ite (fun _ => {}) (fun _ => .refl s)⟩
  | transmitStart =>
    refine ⟨_, rfl, .ite (fun _ => ?_) (fun _ => .refl s)⟩
    split
    · exact {}
    · exact .refl s
  | arbitrationLost => exact ⟨_, rfl, {}⟩
  | transmitError => exact ⟨_, rfl, .ite (fun _ => (WritesOnly.failAttempt s).settle) (fun _ => .refl s)⟩
  | frameCompleted a =>
    refine ⟨_, rfl, ?_⟩
    split
    · exact WritesOnly.settle (.ite (fun _ => { answer := permitted rfl }) (fun _ => .failAttempt s))
    · exact .refl s
  | receiveTimerExpiry =>
    refine ⟨_, rfl, .ite (fun _ => .ite (fun _ => {}) (fun _ => WritesOnly.settle {})) (fun _ => .refl s)⟩
  | announceTimerExpiry => exact ⟨_, rfl, .ite (fun _ => {}) (fun _ => .refl s)⟩
  | diagRead q => exact ⟨_, rfl, .diagDeliver q (.readItem rfl rfl q) s⟩
  | diagClear q => exact ⟨_, rfl, .diagDeliver q (.clearItem rfl rfl q) s⟩
  | diagWrite q =>
    exact ⟨_, rfl, .diagDeliver q (fun t => .ite (fun _ => .takeTest rfl rfl q t) (fun _ => .placed rfl rfl _ _ _ _ t)) s⟩
  | diagRecord q => exact ⟨_, rfl, .diagDeliver q (.readRecord rfl rfl rfl q) s⟩
  | diagTest q => exact ⟨_, rfl, .diagDeliver q (.takeTest rfl rfl q) s⟩
  | diagUnknownOpcode q op => exact ⟨_, rfl, .diagDeliver q (.placed rfl rfl _ _ _ _) s⟩
  | unclaimedValidFrame f => exact ⟨_, rfl, .receiveFrom _ _ .countUnclaimed s⟩

/-- Settles O17: what a command does beside the parts it writes changes no steady part. -/
theorem eachRecordHasItsWriters : Obligations.EachRecordHasItsWriters := by
  intro c s h
  obtain ⟨t, ht, w⟩ := exec_writesOnly c s h
  exact ⟨t, ht, w.pending, w.now, w.rank, w.same⟩

end Sys2Proof.Machine
end

section
/-! PROOFS. The records of the cab unit and of the drum controller (O38), and the entry that a STATUS rewrites (O42). -/

namespace Sys2Proof.Machine

set_option Elab.async false

/-! ### A frame of another node -/

/-- A frame heard from another node is delivered by the rule of its class (R149). -/
theorem receiveFrom_heard {o : Origin} {s : State} (h : Hears o s) (alarm : Option (List Byte)) (deliver : State → State) :
    receiveFrom o alarm deliver s = deliver (withHeard s) := by
  obtain ⟨hl, hown⟩ := h
  rw [receiveFrom, if_pos hl]
  exact if_neg hown

/-- The station of an origin that is a station number. -/
theorem stationOf_eq {o : Origin} {n : StationNo} (h : o.val = n.val) : stationOf o = some n := by
  have hlt : o.val < 8 := by rw [h]; exact n.isLt
  rw [stationOf, dif_pos hlt]
  exact congrArg some (Fin.ext h)

/-- A station that hears another's frame is not that station. -/
theorem Hears.ne {o : Origin} {n : StationNo} {s : State} (h : Hears o s) (ho : o.val = n.val) : n ≠ own s := by
  rintro rfl
  exact h.2 ho

/-- A frame heard that nobody takes is counted as unclaimed (R149). -/
theorem unclaimed_heard (s : State) : (countUnclaimed (withHeard s)).lnk.unclaimed = satInc 65535 s.lnk.unclaimed :=
  congrArg (satInc 65535) (heard_keeps s.lnk).2.2.2.1

/-! ### The cab record (R30, R31) -/

/-- The reports of a cab record, and an acknowledgement, change no steady part. -/
theorem steady_cabNotice (x : CabChange) (s : State) :
    steady (settle (testAcknowledgement (armAcknowledgement (cabReports x s)))) = steady s := by
  rw [steady_settle, steady_testAcknowledgement, steady_armAcknowledgement, steady_cabReports]

theorem exec_cabNotice_unclaimed {o : Origin} {p : List Byte} {s : State} (h : Hears o s) (hp : o ≠ 8 ∨ p.length < 8) :
    exec (.cabNotice o p) s = .next (countUnclaimed (withHeard s)) := by
  have hn : ¬ ((o = 8 && decide (8 ≤ p.length)) = true) := by
    rw [Bool.and_eq_true, decide_eq_true_eq, decide_eq_true_eq]
    exact fun ⟨ho, hl⟩ => hp.elim (fun hx => hx ho) (fun hx => absurd hl (by omega))
  exact (congrArg Host.Outcome.next (receiveFrom_heard h _ _)).trans (congrArg Host.Outcome.next (if_neg hn))

/-- The cab record gone stale, before its reports. -/
def cabStaled (s : State) : State :=
  { s with ptb := { s.ptb with cab := { s.ptb.cab with fresh := false, staleTimer := none } } }

theorem exec_cabRecordStaling {s : State} (hf : s.ptb.cab.fresh = true) (ht : s.ptb.cab.staleTimer.isSome = true) :
    exec .cabRecordStaling s
      = .next (settle (armAcknowledgement (cabReports (cabChange (cabNow s) (cabNow (cabStaled s))) (cabStaled s)))) :=
  congrArg Host.Outcome.next (if_pos (Bool.and_eq_true_iff.2 ⟨hf, ht⟩))

/-! ### The drum record (R33) -/

theorem steady_askPlanIf (b : Bool) (s : State) : steady (askPlanIf b s) = steady s := by cases b <;> rfl

theorem drum_withDrum (d : DrumRecord) (s : State) : (withDrum d s).ptb.drum = d := by
  rw [withDrum, settle_drum]
  exact congrArg Steady.drum (steady_askPlanIf _ _)

theorem exec_drumNotice {o : Origin} {p : List Byte} {s : State} (h : Hears o s) (ho : o = 9) (hp : 3 ≤ p.length) :
    exec (.drumNotice o p) s = .next (withDrum (drumOf s.now p) (withHeard s)) :=
  (congrArg Host.Outcome.next (receiveFrom_heard h _ _)).trans
    (congrArg Host.Outcome.next (if_pos (by simp [ho, hp])))

theorem exec_drumNotice_unclaimed {o : Origin} {p : List Byte} {s : State} (h : Hears o s) (hp : o ≠ 9 ∨ p.length < 3) :
    exec (.drumNotice o p) s = .next (countUnclaimed (withHeard s)) := by
  have hn : ¬ ((o = 9 && decide (3 ≤ p.length)) = true) := by
    rw [Bool.and_eq_true, decide_eq_true_eq, decide_eq_true_eq]
    exact fun ⟨ho, hl⟩ => hp.elim (fun hx => hx ho) (fun hx => absurd hl (by omega))
  exact (congrArg Host.Outcome.next (receiveFrom_heard h _ _)).trans (congrArg Host.Outcome.next (if_neg hn))

theorem exec_drumRecordStaling {s : State} (hf : s.ptb.drum.fresh = true) (ht : s.ptb.drum.staleTimer.isSome = true) :
    exec .drumRecordStaling s = .next (withDrum { s.ptb.drum with fresh := false, staleTimer := none } s) :=
  congrArg Host.Outcome.next (if_pos (Bool.and_eq_true_iff.2 ⟨hf, ht⟩))

/-- Settles O38: both records are steady parts, written before the reports that follow. -/
theorem unitRecordsWritten : Obligations.UnitRecordsWritten := by
  refine ⟨fun o p s h => ⟨fun ho hp => ?_, fun hp => ?_, fun hf ht => ?_⟩,
    fun o p s h => ⟨fun ho hp => ?_, fun hp => ?_, fun hf ht => ?_⟩⟩
  · subst ho
    have st := steady_cabNotice (cabChange (cabNow s) (readCab p)) (withCab p s)
    refine ⟨_, exec_cabNotice h.1 hp, congrArg Steady.cab st, (congrArg (fun x => x.lnk.unclaimed) st).trans ?_⟩
    exact (heard_keeps s.lnk).2.2.2.1
  · exact ⟨_, exec_cabNotice_unclaimed h hp, rfl, rfl, unclaimed_heard s⟩
  · have hc : (settle (armAcknowledgement
        (cabReports (cabChange (cabNow s) (cabNow (cabStaled s))) (cabStaled s)))).ptb.cab = (cabStaled s).ptb.cab := by
      rw [settle_cab]
      exact congrArg Steady.cab ((steady_armAcknowledgement _).trans (steady_cabReports _ _))
    refine ⟨_, exec_cabRecordStaling hf ht, hc, ?_⟩
    rw [cabNow, hc]
    rfl
  · exact ⟨_, exec_drumNotice h ho hp, drum_withDrum _ _⟩
  · exact ⟨_, exec_drumNotice_unclaimed h hp, rfl, unclaimed_heard s⟩
  · refine ⟨_, exec_drumRecordStaling hf ht, drum_withDrum _ _, ?_⟩
    rw [drum_withDrum]
    rfl

/-! ### STATUS (R26, R27, R29) -/

theorem exec_statusNotice_unclaimed {o : Origin} {p : List Byte} {s : State} (h : Hears o s) (hp : readStatus p = none) :
    exec (.statusNotice o p) s = .next (countUnclaimed (withHeard s)) := by
  refine (congrArg Host.Outcome.next (receiveFrom_heard h _ _)).trans (congrArg Host.Outcome.next ?_)
  rw [hp]
  split
  · cases ‹none = some _›
  · rfl

theorem steady_withStatus (n : StationNo) (e : Entry) (s : State) : steady (withStatus n e s) = steady (setEntry n e s) := by
  obtain ⟨r, hr⟩ := withStatus_eq n e s
  rw [hr]
  rfl

/-- Settles O42: the entry is written before the reports that follow, and no report writes a peer's entry. -/
theorem statusRewritesEntry : Obligations.StatusRewritesEntry := by
  intro n o p s ho h
  refine ⟨fun e he => ?_, fun hp => ⟨_, exec_statusNotice_unclaimed h hp, rfl, unclaimed_heard s⟩⟩
  refine ⟨_, exec_statusNotice ho h he, ?_⟩
  have st := (steady_settle (entryReports n (entryOf s n) ((entryOf s n).rewritten e)
    (withStatus n ((entryOf s n).rewritten e) { s with lnk := s.lnk.heard }))).trans (steady_withStatus n _ _)
  exact (peers_of_steady st (h.ne ho)).trans (Table.get_set_self _ _ _)

end Sys2Proof.Machine
end

section
/-! PROOFS. The derived values of a settled station (O19). -/

namespace Sys2Proof.Machine

set_option Elab.async false

/-! ### Membership and the greatest count -/

theorem mem_poolOf (t : Table Entry) (n : StationNo) : n ∈ poolOf t ↔ (t.get n).inPool = true := by
  rw [poolOf, List.mem_filter]
  exact and_iff_right (mem_allStations n)

/-- The membership of the pool, condition by condition (R34). -/
theorem inPool_iff (e : Entry) :
    e.inPool = true ↔ e.presence = .fresh ∧ (e.state = .standstill ∨ e.state = .holding ∨ e.state = .secured)
      ∧ e.flags.lifted = false ∧ e.leaving = false := by
  have hs : e.state.inPool = true ↔ e.state = .standstill ∨ e.state = .holding ∨ e.state = .secured := by
    cases e.state <;> simp [StationState.inPool]
  simp only [Entry.inPool, Entry.isFresh, Bool.and_eq_true, decide_eq_true_eq, Bool.not_eq_true', hs, and_assoc]

theorem isFixed_iff (self : StationNo) (t : Table Entry) (n : StationNo) :
    isFixed self t n = true ↔ n ≠ self ∧ (t.get n).flags.limited = true := by
  simp [isFixed]

/-- A running maximum is at least its start and every value passed. -/
theorem le_foldl_max {α : Type} (f : α → Nat) (l : List α) (a : Nat) :
    a ≤ l.foldl (fun m x => max m (f x)) a ∧ ∀ x ∈ l, f x ≤ l.foldl (fun m x => max m (f x)) a := by
  induction l generalizing a with
  | nil => exact ⟨Nat.le_refl a, by simp⟩
  | cons y l ih =>
    obtain ⟨h1, h2⟩ := ih (max a (f y))
    refine ⟨(Nat.le_max_left _ _).trans h1, fun x hx => ?_⟩
    rcases List.mem_cons.1 hx with rfl | hx
    · exact (Nat.le_max_right _ _).trans h1
    · exact h2 x hx

/-- E_vehicle is no less than the count of any FRESH entry (R37). -/
theorem creep_le_eVehicle (t : Table Entry) (n : StationNo) (h : (t.get n).presence = .fresh) :
    (t.get n).creep ≤ eVehicleOf t := by
  have h1 := (le_foldl_max (fun n => (t.get n).freshCreep) allStations 0).2 n (mem_allStations n)
  have h2 : (t.get n).freshCreep = (t.get n).creep := if_pos (decide_eq_true h)
  exact h2 ▸ h1

/-- Where the raw condition holds, every FRESH entry shows STANDSTILL, the own with them (R36). -/
theorem standstill_of_raw {self : StationNo} {t : Table Entry} (h : rawStationary self t = true) {n : StationNo}
    (hn : (t.get n).presence = .fresh) : (t.get n).flags.standstill = true := by
  obtain ⟨hown, hpeers⟩ := Bool.and_eq_true_iff.1 h
  by_cases hs : n = self
  · rw [hs]
    exact hown
  · have hall := List.any_eq_false.1 (Bool.not_eq_true' _ ▸ hpeers) n (mem_allStations n)
    simpa [hs, Entry.isFresh, hn] using hall

/-! ### The derived values agree with the table -/

section

variable {s : State} (h : Synced s)

include h

theorem Synced.pool : s.ptb.pool = poolOf s.ptb.entries := (congrArg Ptb.pool h.table).symm
theorem Synced.fixedSet : s.ptb.fixedSet = fixedOf (own s) s.ptb.entries := (congrArg Ptb.fixedSet h.table).symm
theorem Synced.flexibleSet : s.ptb.flexibleSet = flexibleOf (own s) s.ptb.entries := (congrArg Ptb.flexibleSet h.table).symm
theorem Synced.eVehicle : s.ptb.eVehicle = eVehicleOf s.ptb.entries := (congrArg Ptb.eVehicle h.table).symm

theorem Synced.raw (hv : s.ptb.vehicleStationary = true) : rawStationary (own s) s.ptb.entries = true := by
  have e : (s.ptb.vehicleStationary && rawStationary (own s) s.ptb.entries) = s.ptb.vehicleStationary :=
    congrArg Ptb.vehicleStationary h.table
  rw [hv, Bool.true_and] at e
  exact e

theorem Synced.mem_pool (n : StationNo) : n ∈ s.ptb.pool ↔ (entryOf s n).inPool = true := by
  rw [h.pool]
  exact mem_poolOf _ _

theorem Synced.mem_fixedSet (n : StationNo) :
    n ∈ s.ptb.fixedSet ↔ n ∈ s.ptb.pool ∧ isFixed (own s) s.ptb.entries n = true := by
  rw [h.fixedSet, h.pool]
  exact List.mem_filter

theorem Synced.mem_flexibleSet (n : StationNo) :
    n ∈ s.ptb.flexibleSet ↔ n ∈ s.ptb.pool ∧ (!isFixed (own s) s.ptb.entries n) = true := by
  rw [h.flexibleSet, h.pool]
  exact List.mem_filter

end

/-- Settles O19: each value is the one that its rule forms from the table and the own values. -/
theorem derivedValuesFollow : Obligations.DerivedValuesFollow := by
  intro s hs
  have h := hs.agree.toSynced
  refine ⟨fun n => ⟨?_, ?_, ?_, fun hv hn => ?_, fun hn => ?_⟩, ?_, ?_, ?_, ?_⟩
  · rw [h.mem_pool n]
    exact inPool_iff _
  · rw [h.mem_fixedSet n, isFixed_iff]
    rfl
  · rw [h.mem_flexibleSet n, h.mem_fixedSet n]
    cases isFixed (own s) s.ptb.entries n <;> simp
  · exact standstill_of_raw (h.raw hv) hn
  · rw [h.eVehicle]
    exact creep_le_eVehicle _ n hn
  · rw [← h.grade]
    simp only [gradeValidOf, Bool.and_eq_true, decide_eq_true_eq, Bool.not_eq_true', and_assoc]
    rfl
  · rw [← h.load]
    simp only [loadValidOf, Bool.and_eq_true, decide_eq_true_eq, Bool.not_eq_true']
    rfl
  · exact congrArg (fun e => e.flags.gradeValid) h.entry
  · exact congrArg Entry.grade h.entry

end Sys2Proof.Machine
end

section
/-! PROOFS. The bytes of the notices read back (O4). -/

namespace Sys2Proof.Machine

set_option Elab.async false

/-! ### Bytes and words (R157) -/

theorem byteOf_toNat (n : Nat) : (byteOf n).toNat = n % 256 := BitVec.toNat_ofNat n 8

theorem word16_toNat (n : Nat) : (word16 n).toNat = n % 65536 := BitVec.toNat_ofNat n 16

/-- A word reads back from its two bytes, the most significant first. -/
theorem wordBytes_append (w : Word16) : w.extractLsb' 8 8 ++ w.extractLsb' 0 8 = w := by
  apply BitVec.eq_of_toNat_eq
  have hw := w.isLt
  rw [BitVec.toNat_append, BitVec.extractLsb'_toNat, BitVec.extractLsb'_toNat, ← Nat.shiftLeft_add_eq_or_of_lt (by omega),
    Nat.shiftLeft_eq, Nat.shiftRight_eq_div_pow, Nat.shiftRight_eq_div_pow]
  omega

theorem signed16_toInt {x : Int} (h1 : -32768 ≤ x) (h2 : x < 32768) : (signed16 x).toInt = x := by
  rw [signed16, BitVec.toInt_ofInt]
  exact Int.bmod_eq_of_le (by omega) (by omega)

theorem clampInt_of_mem {lo hi x : Int} (h1 : lo ≤ x) (h2 : x ≤ hi) : clampInt lo hi x = x := by
  rw [clampInt, if_neg (by omega), if_neg (by omega)]

theorem bit_lt (b : Bool) : bit b < 2 := by cases b <;> decide

/-- The lowest bit of a number. -/
theorem getLsbD_zero {w : Nat} (x : BitVec w) : x.getLsbD 0 = decide (x.toNat % 2 = 1) := Nat.testBit_zero _

/-! ### STATUS (Table 9-4) -/

theorem stateOfCode_code (st : StationState) : stateOfCode st.code = some st := by cases st <;> rfl

theorem code_lt (st : StationState) : st.code < 10 := by cases st <;> decide

/-- The eight flags read back from their byte. -/
theorem flagsOfByte_flagsByte (f : EntryFlags) : flagsOfByte (flagsByte f) = f := by
  obtain ⟨a, b, c, d, e, f, g, h⟩ := f
  revert a b c d e f g h
  decide

/-- A mark written in the lowest bit. -/
theorem bit_mod (n : Nat) (b : Bool) : decide ((2 * n + bit b) % 2 = 1) = b := by
  cases b <;> simp [bit, Nat.add_mod]

/-- The first byte of a STATUS: state code, role and spring mark. -/
theorem statusHead_fields (e : Entry) :
    stateOfCode ((byteAt (statusPayload e) 0).toNat / 16) = some e.state
      ∧ Fin.ofNat 8 ((byteAt (statusPayload e) 0).toNat / 2) = e.role
      ∧ (byteAt (statusPayload e) 0).getLsbD 0 = e.spring := by
  have hc := code_lt e.state
  have hr := e.role.isLt
  have hb := bit_lt e.spring
  have h : (byteAt (statusPayload e) 0).toNat = 2 * (8 * e.state.code + e.role.val) + bit e.spring := by
    refine (byteOf_toNat _).trans ?_
    omega
  rw [getLsbD_zero, h, bit_mod]
  refine ⟨?_, Fin.ext ?_, rfl⟩
  · rw [show (2 * (8 * e.state.code + e.role.val) + bit e.spring) / 16 = e.state.code by omega, stateOfCode_code]
  · show (2 * (8 * e.state.code + e.role.val) + bit e.spring) / 2 % 8 = e.role.val
    omega

/-- The load word of a STATUS: load, creep count and validity flag. -/
theorem statusLoad_fields {e : Entry} (hl : e.load ≤ 4000) (hc : e.creep ≤ 7) :
    min 4000 ((wordAt (statusPayload e) 2).toNat / 16) = e.load
      ∧ (wordAt (statusPayload e) 2).toNat / 2 % 8 = e.creep
      ∧ (wordAt (statusPayload e) 2).getLsbD 0 = e.loadValid := by
  have hb := bit_lt e.loadValid
  have h : (wordAt (statusPayload e) 2).toNat = 2 * (8 * e.load + e.creep) + bit e.loadValid := by
    refine (congrArg BitVec.toNat (wordBytes_append _)).trans ((word16_toNat _).trans ?_)
    omega
  rw [getLsbD_zero, h, bit_mod]
  exact ⟨by omega, by omega, rfl⟩

/-- The grade of a STATUS, where it is announced. -/
theorem statusGrade_fields {e : Entry} (hg : ∀ g, e.grade = some g → -600 ≤ g ∧ g ≤ 600) :
    clampInt (-600) 600 (wordAt (statusPayload e) 4).toInt = e.grade.getD 0 := by
  have hr : -600 ≤ e.grade.getD 0 ∧ e.grade.getD 0 ≤ 600 := by
    cases h : e.grade with
    | none => simp
    | some g => exact hg g h
  have h : (wordAt (statusPayload e) 4).toInt = e.grade.getD 0 :=
    (congrArg BitVec.toInt (wordBytes_append _)).trans (signed16_toInt (by omega) (by omega))
  rw [h, clampInt_of_mem hr.1 hr.2]

/-- A word of a payload reads as the number it was formed from. -/
theorem toNat_wordBytes {n : Nat} (h : n < 65536) :
    ((word16 n).extractLsb' 8 8 ++ (word16 n).extractLsb' 0 8).toNat = n :=
  (congrArg BitVec.toNat (wordBytes_append _)).trans ((word16_toNat n).trans (Nat.mod_eq_of_lt h))

theorem readStatus_statusPayload {e : Entry} (hl : e.load ≤ 4000) (hc : e.creep ≤ 7) (hcap : e.capacity < 65536)
    (hs : e.share < 65536) (ha : e.achieved < 65536) (hg : ∀ g, e.grade = some g → -600 ≤ g ∧ g ≤ 600) :
    readStatus (statusPayload e)
      = some { e with
          presence := .absent, sinceStatus := 2000, deadline := none, leaving := false,
          grade := if e.flags.gradeValid then some (e.grade.getD 0) else none } := by
  obtain ⟨hstate, hrole, hspring⟩ := statusHead_fields e
  obtain ⟨hload, hcreep, hvalid⟩ := statusLoad_fields hl hc
  have hflags : flagsOfByte (byteAt (statusPayload e) 1) = e.flags := flagsOfByte_flagsByte e.flags
  have hmark : (byteAt (statusPayload e) 1).getLsbD 6 = e.flags.gradeValid := congrArg EntryFlags.gradeValid hflags
  have hcapacity : (wordAt (statusPayload e) 6).toNat = e.capacity := toNat_wordBytes hcap
  have hshare : (wordAt (statusPayload e) 8).toNat = e.share := toNat_wordBytes hs
  have hachieved : (wordAt (statusPayload e) 10).toNat = e.achieved := toNat_wordBytes ha
  have hn : (statusPayload e).length = 12 := rfl
  rw [readStatus, if_pos hn, hstate, Option.map_some, hrole, hspring, hload, hcreep, hvalid, hflags, hmark, hcapacity, hshare,
    hachieved, statusGrade_fields hg]

/-! ### CAB (Table 9-5) -/

theorem gearOfCode_code (g : Gear) : gearOfCode g.code = g := by cases g <;> rfl

theorem surfaceOfCode_code (x : Surface) : surfaceOfCode x.code = x := by cases x <;> rfl

/-- The marks of a CAB payload read back from its first byte. -/
theorem cabMarks (c : CabValues) :
    (byteAt (cabPayload c) 0).getLsbD 7 = c.park ∧ (byteAt (cabPayload c) 0).getLsbD 6 = c.pedal
      ∧ (byteAt (cabPayload c) 0).getLsbD 5 = c.driver ∧ (byteAt (cabPayload c) 0).getLsbD 4 = c.ignition
      ∧ (byteAt (cabPayload c) 0).getLsbD 3 = c.ack := by
  have h : ∀ p q d i k : Bool,
      let b := byteOf (128 * bit p + 64 * bit q + 32 * bit d + 16 * bit i + 8 * bit k)
      b.getLsbD 7 = p ∧ b.getLsbD 6 = q ∧ b.getLsbD 5 = d ∧ b.getLsbD 4 = i ∧ b.getLsbD 3 = k := by decide
  exact h c.park c.pedal c.driver c.ignition c.ack

/-- The two codes of its second byte. -/
theorem cabCodes (c : CabValues) :
    gearOfCode ((byteAt (cabPayload c) 1).toNat / 64) = c.gear
      ∧ surfaceOfCode ((byteAt (cabPayload c) 1).toNat / 16 % 4) = c.surface := by
  obtain ⟨a, b, c, d, g, f, l, k, x⟩ := c
  show gearOfCode ((byteOf (64 * g.code + 16 * x.code)).toNat / 64) = g
    ∧ surfaceOfCode ((byteOf (64 * g.code + 16 * x.code)).toNat / 16 % 4) = x
  cases g <;> cases x <;> decide

theorem readCab_cabPayload {c : CabValues} (h : c.driveForce < 65536) : readCab (cabPayload c) = c := by
  obtain ⟨h1, h2, h3, h4, h5⟩ := cabMarks c
  obtain ⟨h6, h7⟩ := cabCodes c
  have h8 : (wordAt (cabPayload c) 2).toNat = c.driveForce := toNat_wordBytes h
  have h9 : byteAt (cabPayload c) 4 = c.liftBits := rfl
  simp only [readCab, h1, h2, h3, h4, h5, h6, h7, h8, h9]

/-! ### HANDOFF (Table 9-8) -/

theorem readStation_byteOf (n : StationNo) : readStation (byteOf n.val) = some n := by revert n; decide

theorem readToggle_byteOf (b : Bool) : readToggle (byteOf (bit b)) = some b := by cases b <;> decide

theorem readReason_byteOf (r : LeaveReason) : readReason (byteOf r.code) = some r := by cases r <;> decide

theorem readAnswer_byteOf (a : Answer) : readAnswer (byteOf a.code) = some a := by cases a <;> decide

section

variable (self m : StationNo) (x : Bool)

theorem readRequest_payload (r : LeaveReason) {a : Nat} (h : a < 65536) :
    readRequest (handoffPayload self a (.request x r)).tail
      = some { leaver := self, toggle := x, reason := r, force := a } := by
  generalize hl : (handoffPayload self a (.request x r)).tail = l
  have hn : l.length = 5 := by rw [← hl]; rfl
  have h0 : byteAt l 0 = byteOf self.val := by rw [← hl]; rfl
  have h1 : byteAt l 1 = byteOf (bit x) := by rw [← hl]; rfl
  have h2 : byteAt l 2 = byteOf r.code := by rw [← hl]; rfl
  have h3 : (wordAt l 3).toNat = a := by rw [← hl]; exact toNat_wordBytes h
  rw [readRequest, if_pos hn, h0, h1, h2, h3, readStation_byteOf, readToggle_byteOf, readReason_byteOf]

theorem readReply_payload (y : Answer) {a : Nat} (b : Nat) (h : a < 65536) :
    readReply (handoffPayload self b (.reply m x y a)).tail
      = some { leaver := m, replier := self, toggle := x, answer := y, force := a } := by
  generalize hl : (handoffPayload self b (.reply m x y a)).tail = l
  have hn : l.length = 6 := by rw [← hl]; rfl
  have h0 : byteAt l 0 = byteOf m.val := by rw [← hl]; rfl
  have h1 : byteAt l 1 = byteOf self.val := by rw [← hl]; rfl
  have h2 : byteAt l 2 = byteOf (bit x) := by rw [← hl]; rfl
  have h3 : byteAt l 3 = byteOf y.code := by rw [← hl]; rfl
  have h4 : (wordAt l 4).toNat = a := by rw [← hl]; exact toNat_wordBytes h
  rw [readReply, if_pos hn, h0, h1, h2, h3, h4, readStation_byteOf, readStation_byteOf, readToggle_byteOf, readAnswer_byteOf]

theorem readCancel_payload (a : Nat) :
    readCancel (handoffPayload self a (.cancel x)).tail = some { leaver := self, toggle := x } := by
  generalize hl : (handoffPayload self a (.cancel x)).tail = l
  have hn : l.length = 2 := by rw [← hl]; rfl
  have h0 : byteAt l 0 = byteOf self.val := by rw [← hl]; rfl
  have h1 : byteAt l 1 = byteOf (bit x) := by rw [← hl]; rfl
  rw [readCancel, if_pos hn, h0, h1, readStation_byteOf, readToggle_byteOf]

end

/-! ### ALARM (Table 9-7) -/

theorem readAlarmReason_code (r : AlarmReason) : readAlarmReason (byteOf r.code) = r := by cases r <;> decide

theorem readAlarm_alarmPayload (self : StationNo) {a : AlarmNotice} (ht : a.travel < 65536) (h1 : -32768 ≤ a.grade)
    (h2 : a.grade < 32768) :
    readAlarm self (alarmPayload self a)
      = some { cause := .notice, origin := self, reason := some a.reason, travel := some a.travel, grade := some a.grade } := by
  have hr : readAlarmReason (byteAt (alarmPayload self a) 1) = a.reason := readAlarmReason_code _
  have hd : (wordAt (alarmPayload self a) 2).toNat = a.travel := toNat_wordBytes ht
  have hg : (wordAt (alarmPayload self a) 4).toInt = a.grade :=
    (congrArg BitVec.toInt (wordBytes_append _)).trans (signed16_toInt h1 h2)
  have hn : (alarmPayload self a).length = 6 := rfl
  rw [readAlarm, if_pos hn, hr, hd, hg]

/-- Settles O4: each field read back from its byte or word. -/
theorem noticesReadBack : Obligations.NoticesReadBack :=
  ⟨fun _ hl hc hcap hs ha hg => ⟨rfl, readStatus_statusPayload hl hc hcap hs ha hg⟩,
    fun _ h => readCab_cabPayload h,
    fun self x r _ h => readRequest_payload self x r h,
    fun self m x y _ b h => readReply_payload self m x y b h,
    readCancel_payload,
    fun self _ ht h1 h2 => readAlarm_alarmPayload self ht h1 h2⟩

end Sys2Proof.Machine
end

section
/-! PROOFS. A foreign frame of the own origin (O44). -/

namespace Sys2Proof.Machine

set_option Elab.async false

/-! ### A station in ALARM -/

/-- A station in ALARM that no failure, rollaway or peer's alarm reaches: it has counted `c` alarm causes. -/
structure InAlarm (c : Nat) (s : State) : Prop where
  state : s.stc.state = .alarm
  failure : failureRaised s = false
  watch : s.crm.watch = false
  rollaways : s.agenda.rollaways = []
  peerAlarms : s.agenda.peerAlarms = []
  count : s.alarm.count = c

section

variable {c : Nat} {s t : State} (h : InAlarm c s)

include h

theorem InAlarm.no_exit : exitMove s = none := by
  simp [exitMove, stateExit, h.failure, h.state, StationState.alarmable]

theorem InAlarm.no_hop : ¬ Hop s t := by
  have hm := h.no_exit
  have hs := h.state
  intro r
  cases r with
  | goto _ he | peerShows _ he | exchange he | withdraw he => simp [hm] at he
  | peerAlarm _ _ _ ha | rollaway _ _ _ ha => simp [hs, StationState.alarmable] at ha
  | yield _ _ _ hy => simp [exchanging, hs] at hy
  | unparked _ _ _ _ hx | rampOver hx _ _ | released hx _ _ | reheldAtOnce hx _ _ _ => simp [hs] at hx
  | reheld _ hr => simp [reholds_iff, hs] at hr
  | aborted _ hr _ | abortedByPeer _ hr => simp [releaseInProgress_iff, hs] at hr

theorem InAlarm.nearly (q : Nearly s t) : InAlarm c t where
  state := (state_of_standing q.standing).trans h.state
  failure := (failureRaised_of_nearly q).trans h.failure
  watch := (watch_of_standing q.standing).trans h.watch
  rollaways := List.eq_nil_iff_forall_not_mem.2 fun r hr => by
    have := q.calls.rollaways r hr
    simp [h.rollaways, h.watch] at this
  peerAlarms := List.eq_nil_iff_forall_not_mem.2 fun n hn => by simpa [h.peerAlarms] using q.calls.peerAlarms n hn
  count := (congrArg (fun x => x.alarm.count) q.standing).trans h.count

theorem InAlarm.minor (m : Minor s t) : InAlarm c t := by
  have marked (u : State) (hu : InAlarm c u) (b : Bool) : InAlarm c (markUnpark b u) :=
    ⟨hu.state, hu.failure, hu.watch, hu.rollaways, hu.peerAlarms, hu.count⟩
  obtain ⟨h1, h2, h3, h4, h5, h6⟩ := h
  cases m with
  | tendHandoff | countRampStep | turn | succeed => exact ⟨h1, h2, h3, h4, h5, h6⟩
  | deferAsk => unfold deferAsk; split <;> exact ⟨h1, h2, h3, h4, h5, h6⟩
  | testUnpark => rw [testUnpark, if_neg (by simp [h1])]; exact ⟨h1, h2, h3, h4, h5, h6⟩
  | unparkUnreached _ _ _ hs => simp [h1] at hs
  | counted hc => simp [h4, h5] at hc

end

theorem kept_inAlarm (c : Nat) : Kept (InAlarm c) where
  nearly := fun _ _ h q => h.nearly q
  followLift := fun s h => by rw [followLift_of_state (by simp [h.state]) (by simp [h.state])]; exact h
  hop := fun _ _ h r => absurd r h.no_hop
  minor := fun _ _ h m => h.minor m

/-- A station that takes a delivered alarm cause is in ALARM and has counted it (R135, R138). -/
theorem inAlarm_deliverAlarm {n : StationNo} {p : List Byte} {s : State} (hp : p.length = 6) (ha : s.stc.state.alarmable = true)
    (hf : failureRaised s = false) (hr : s.agenda.rollaways = []) (hn : s.agenda.peerAlarms = []) :
    InAlarm (satInc 65535 s.alarm.count) (deliverAlarm n p s) := by
  have hc (k : AlarmCause) : takeAlarmCause k (callStatus s) = enterAlarm k (countAlarm (callStatus s)) := if_pos ha
  simp only [deliverAlarm, readAlarm, if_pos hp, ha, if_true, hc]
  exact (kept_inAlarm _).afterMove ⟨rfl, hf, Crm.watch_enter _ _ _ _, hr, hn, rfl⟩

/-! ### The frame of the own origin (R40) -/

/-- The frame as PTB takes it, before STC does. -/
def duplicated (s : State) : State :=
  raiseFault .duplicateId { withHeard s with ptb := { s.ptb with lastDuplicate := some s.now } }

theorem exec_foreignOwnOriginFrame (k : Fin 8) (p : List Byte) {s : State} (hl : listening s = true) :
    exec (.foreignOwnOriginFrame k p) s
      = .next (settle (if k = 0 then deliverAlarm (own s) p (duplicated s) else duplicated s)) := by
  have h : exec (.foreignOwnOriginFrame k p) s
      = .next (receiveFrom (ownOrigin s) (if k = 0 then some p else none) id s) := rfl
  have ho : (ownOrigin s).val = (own s).val := rfl
  rw [h, receiveFrom, if_pos hl]
  dsimp only
  refine (congrArg Host.Outcome.next (if_pos ho)).trans ?_
  by_cases hk : k = 0
  · rw [if_pos hk, if_pos hk]; rfl
  · rw [if_neg hk, if_neg hk]; rfl

/-- STC's part of a delivered ALARM notice changes no steady part but the count of unclaimed frames. -/
theorem steady_deliverAlarm (n : StationNo) (p : List Byte) (s : State) :
    (deliverAlarm n p s).ptb.lastDuplicate = s.ptb.lastDuplicate
      ∧ (deliverAlarm n p s).lnk.validFrames = s.lnk.validFrames := by
  unfold deliverAlarm
  split
  · have h (b : Bool) (c : AlarmCause) := (steady_afterCause c (callStatus s) b).trans (steady_callStatus s)
    exact ⟨congrArg Steady.lastDuplicate (h _ _), congrArg (fun x => x.lnk.validFrames) (h _ _)⟩
  · exact ⟨rfl, rfl⟩

/-- It clears no sticky flag. -/
theorem flag_deliverAlarm {n : StationNo} {p : List Byte} {s : State} {f : Flag} (hf : f.sticky = true) (h : hasFault s f = true) :
    hasFault (deliverAlarm n p s) f = true := by
  have cause (c : AlarmCause) : (takeAlarmCause c (callStatus s)).stc.faults.get f = true :=
    (faults_takeAlarmCause c (callStatus s) hf).trans h
  unfold deliverAlarm
  split
  · split
    · exact (kept_flag hf).afterMove (cause _)
    · exact cause _
  · exact h

/-- Settles O44: DUPLICATE_ID is raised before the alarm is taken, and the alarm keeps it. -/
theorem foreignOwnOrigin : Obligations.ForeignOwnOrigin := by
  refine fun k p s hl => ⟨⟨_, exec_foreignOwnOriginFrame k p hl, ?_⟩, fun hs hk hp ha hf => ⟨_, exec_foreignOwnOriginFrame k p hl, ?_⟩⟩
  · have hd : hasFault (duplicated s) .duplicateId = true := hasFault_putFault_self _ _ _
    have hv : (duplicated s).lnk.validFrames = satInc 65535 s.lnk.validFrames := (heard_keeps s.lnk).2.2.2.2
    rw [settle_lastDuplicate, settle_validFrames]
    refine ⟨(kept_flag (f := .duplicateId) rfl).settle ?_, ?_⟩
    · split
      · exact flag_deliverAlarm rfl hd
      · exact hd
    · split
      · obtain ⟨h1, h2⟩ := steady_deliverAlarm (own s) p (duplicated s)
        exact ⟨h1, h2.trans hv⟩
      · exact ⟨rfl, hv⟩
  · rw [if_pos hk]
    have hr : (duplicated s).agenda.rollaways = [] := congrArg Agenda.rollaways hs.1
    have hn : (duplicated s).agenda.peerAlarms = [] := congrArg Agenda.peerAlarms hs.1
    have h := (kept_inAlarm _).settle (inAlarm_deliverAlarm (n := own s) (s := duplicated s) hp ha hf hr hn)
    exact ⟨h.state, h.count⟩

end Sys2Proof.Machine
end

section
/-! PROOFS. What a transition leaves to the other blocks, and the standstill, vehicle-stationary and spring-apply timers
(O33). -/

namespace Sys2Proof.Machine

set_option Elab.async false

/-! ### What no transition writes -/

/-- The steady parts, the peer table, MOD, the plan but for what a change of state writes, the replier records, the replies
gathered and the ends of steps on the agenda. -/
structure Scenery where
  steady : Steady
  ptb : Ptb
  mod : Mod
  plan : Plan
  repliers : Table ReplierRecord
  replies : Table (Option Reply)
  ends : List StepEnd

def scenery (s : State) : Scenery :=
  { steady := steady s, ptb := s.ptb, mod := s.mod
    plan := { s.hpl with planLock := false, decreaseWait := none, lastSubmitted := 0 }
    repliers := s.hoe.repliers, replies := s.hoe.replies, ends := s.agenda.ends }

/-- One scenery follows another where at most ends of steps were taken off and the replies gathered cleared. -/
def Scenery.Follows (x y : Scenery) : Prop :=
  ∃ l r, l ⊆ x.ends ∧ (r = x.replies ∨ r = Table.fill none) ∧ y = { x with ends := l, replies := r }

theorem Scenery.Follows.of_eq {x y : Scenery} (h : y = x) : x.Follows y :=
  ⟨_, _, List.Subset.refl _, .inl rfl, h⟩

theorem Scenery.Follows.trans {x y z : Scenery} (h : x.Follows y) (k : y.Follows z) : x.Follows z := by
  obtain ⟨l, r, hl, hr, rfl⟩ := h
  obtain ⟨m, q, hm, hq, rfl⟩ := k
  exact ⟨m, q, List.Subset.trans hm hl, hq.elim (fun e => e ▸ hr) .inr, rfl⟩

theorem Hoe.repliers_enter (t : StationState) (h : Hoe) :
    (h.enter t).repliers = h.repliers ∧ (h.enter t).replies = h.replies := by
  unfold Hoe.enter
  (repeat' split) <;> exact ⟨rfl, rfl⟩

theorem scenery_enterState (t : StationState) (s : State) : scenery (enterState t s) = scenery s := by
  unfold scenery
  rw [steady_enterState]
  simp only [enterState, Plan.enter, (Hoe.repliers_enter t s.hoe).1, (Hoe.repliers_enter t s.hoe).2]

theorem scenery_followLift (s : State) : scenery (followLift s) = scenery s := by
  unfold followLift
  split <;> rfl

theorem scenery_takeAlarmCause (c : AlarmCause) (s : State) : scenery (takeAlarmCause c s) = scenery s := by
  unfold takeAlarmCause
  split
  · exact scenery_enterState _ _
  · rfl

theorem scenery_returnToOrigin (s : State) : scenery (returnToOrigin s) = scenery s := by
  unfold returnToOrigin
  dsimp only
  split
  · exact (scenery_enterState _ _).trans (scenery_enterState _ _)
  · exact scenery_enterState _ _

theorem scenery_rehold (s : State) : scenery (rehold s) = scenery s := by
  unfold rehold
  dsimp only
  split
  · rfl
  · exact scenery_enterState _ _

theorem scenery_released (s : State) : scenery (released s) = scenery s :=
  (scenery_followLift _).trans (scenery_enterState .free s)

/-- A ramp that is over blanks the replies gathered. -/
theorem scenery_rampOver (s : State) : scenery (rampOver s) = { scenery s with replies := Table.fill none } := by
  unfold rampOver
  dsimp only
  split
  · exact scenery_enterState _ _
  · exact scenery_enterState .free { s with hoe := { s.hoe with phase := .idle, replies := Table.fill none } }

/-- What a transition changes of it at most. -/
theorem scenery_hop {s t : State} (r : Hop s t) : (scenery s).Follows (scenery t) := by
  have blank {u : State} (h : scenery u = { scenery s with replies := Table.fill none }) : (scenery s).Follows (scenery u) :=
    ⟨_, _, List.Subset.refl _, .inr rfl, h⟩
  cases r with
  | exchange _ => exact blank (scenery_enterState .leaving { s with hoe := s.hoe.startExchange })
  | goto _ _ | aborted _ _ _ | abortedByPeer _ _ => exact .of_eq (scenery_enterState _ _)
  | unparked e rest he _ _ =>
    exact ⟨rest, _, fun x hx => by simp [scenery, he, hx], .inl rfl,
      scenery_enterState .holding { s with agenda := { s.agenda with ends := rest } }⟩
  | peerShows _ _ | peerAlarm _ _ _ _ => exact .of_eq (scenery_takeAlarmCause _ _)
  | rollaway c rest _ ha =>
    rw [takeRollaway, if_pos ha]
    exact .of_eq (scenery_enterState _ _)
  | withdraw _ => exact .of_eq (scenery_returnToOrigin _)
  | yield _ _ _ _ => exact blank (scenery_returnToOrigin _)
  | rampOver _ _ _ => exact blank (scenery_rampOver s)
  | released _ _ _ => exact .of_eq (scenery_released _)
  | reheldAtOnce _ _ _ _ => exact .of_eq ((scenery_rehold _).trans (scenery_released _))
  | reheld _ _ => exact .of_eq (scenery_rehold _)

theorem scenery_minor {s t : State} (m : Minor s t) : scenery t = scenery s := by
  cases m with
  | deferAsk => unfold deferAsk; split <;> rfl
  | testUnpark => unfold testUnpark; dsimp only; (repeat' split) <;> rfl
  | _ => rfl

/-! ### The standstill timer (R92) -/

/-- The standstill flag set by its timer, before the reports that follow. -/
def stoodStill (s : State) : State :=
  askPlan (askExits { s with crm := { s.crm with standstill := true, standstillTimer := none } })

theorem exec_standstillTimerExpiry {s : State} (h : s.crm.standstillTimer.isSome = true) :
    exec .standstillTimerExpiry s = .next (settle (stoodStill s)) := congrArg Host.Outcome.next (if_pos h)

/-! ### The vehicle-stationary timer (R36) -/

/-- Vehicle-stationary as its timer sets it, before the reports that follow. -/
def stoodAll (s : State) : State :=
  askExits { s with ptb := { s.ptb with vehicleStationary := rawStationary (own s) s.ptb.entries, stationaryTimer := none } }

theorem exec_vehicleStationaryTimerExpiry {s : State} (h : s.ptb.stationaryTimer.isSome = true) :
    exec .vehicleStationaryTimerExpiry s = .next (settle (stoodAll s)) := congrArg Host.Outcome.next (if_pos h)

/-- The own entry of a state brought up to date shows the own flag, so its raw condition is that of the blocks. -/
theorem Settled.rawStationary {s : State} (h : Settled s) : rawStationary (own s) s.ptb.entries = rawOf s := by
  have h2 : (s.ptb.entries.get (own s)).flags.standstill = s.crm.standstill :=
    congrArg (fun e => e.flags.standstill) h.agree.entry
  rw [Machine.rawStationary, h2, rawOf]

/-- Vehicle-stationary and its raw condition, both as they were. -/
structure StandsStill (b : Bool) (s : State) : Prop where
  stationary : s.ptb.vehicleStationary = b
  raw : rawOf s = b

theorem StandsStill.follows {b : Bool} {s t : State} (h : StandsStill b s) (e : (scenery s).Follows (scenery t)) :
    StandsStill b t := by
  obtain ⟨l, r, -, -, e⟩ := e
  exact ⟨(congrArg (fun x => x.ptb.vehicleStationary) e).trans h.stationary,
    (rawOf_of_steady (congrArg Scenery.steady e)).trans h.raw⟩

theorem kept_standsStill (b : Bool) : Kept (StandsStill b) where
  nearly := fun s t h q => by
    refine ⟨?_, (rawOf_of_steady q.steady).trans h.raw⟩
    cases b with
    | false => exact moving_of_nearly h.stationary q
    | true => exact q.stays h.stationary h.raw
  followLift := fun s h => h.follows (.of_eq (scenery_followLift s))
  hop := fun _ _ h r => h.follows (scenery_hop r)
  minor := fun _ _ h m => h.follows (.of_eq (scenery_minor m))

theorem standsStill_settle {s : State} (h : Settled s) :
    StandsStill (Machine.rawStationary (own s) s.ptb.entries) (settle (stoodAll s)) :=
  (kept_standsStill _).settle ⟨rfl, h.rawStationary.symm⟩

/-- A settled station whose vehicle-stationary is its raw condition runs no timer for it. -/
theorem StandsStill.no_timer {b : Bool} {s : State} (h : StandsStill b s) (hs : Settled s) : s.ptb.stationaryTimer = none := by
  have ht : timerWhile (Machine.rawStationary (own s) s.ptb.entries && !s.ptb.vehicleStationary) 500 s.ptb.stationaryTimer
      = s.ptb.stationaryTimer := congrArg Ptb.stationaryTimer hs.agree.table
  rw [hs.rawStationary, h.raw, h.stationary, Bool.and_not_self] at ht
  exact ht.symm

/-! ### The spring-apply timer (R87) -/

/-- The springs as their timer counts them, before the reports that follow. -/
def sprung (s : State) : State :=
  askPlanIf ((s.mod.springsApplied s.suc.spring).springsCounted != s.mod.springsCounted)
    { s with mod := s.mod.springsApplied s.suc.spring }

theorem exec_springApplyTimerExpiry {s : State} (h : s.mod.springTimer.isSome = true) :
    exec .springApplyTimerExpiry s = .next (settle (sprung s)) := congrArg Host.Outcome.next (if_pos h)

/-- A station with its park valve off: in SECURED, in an exchange from it that nothing has answered, or in ALARM or FAILED. -/
structure Parked (s : State) : Prop where
  state : s.stc.state = .secured ∨ s.stc.state = .alarm ∨ s.stc.state = .failed ∨ s.stc.state = .leaving
  leaving : s.stc.state = .leaving → s.stc.origin = some .secured ∧ s.hoe.phase = .exchange
    ∧ s.hoe.replies = Table.fill none
  ends : ∀ e ∈ s.agenda.ends, e.outcome = .superseded

theorem Parked.of_state {s : State} (h : s.stc.state = .secured ∨ s.stc.state = .alarm ∨ s.stc.state = .failed)
    (he : ∀ e ∈ s.agenda.ends, e.outcome = .superseded) : Parked s where
  state := by rcases h with h | h | h <;> simp [h]
  leaving := fun hs => by rcases h with h | h | h <;> simp [h] at hs
  ends := he

section

variable {s t : State} (h : Parked s)

include h

theorem Parked.ne {x : StationState} (h1 : x ≠ .secured) (h2 : x ≠ .alarm) (h3 : x ≠ .failed) (h4 : x ≠ .leaving) :
    s.stc.state ≠ x := by
  rintro rfl
  rcases h.state with h | h | h | h
  exacts [h1 h, h2 h, h3 h, h4 h]

theorem Parked.parkOf : parkOf s.stc.origin s.stc.state = some false := by
  rcases h.state with hs | hs | hs | hs
  · rw [hs]; rfl
  · rw [hs]; rfl
  · rw [hs]; rfl
  · rw [hs, (h.leaving hs).1]; rfl

theorem Parked.takeAlarmCause (c : AlarmCause) : Parked (takeAlarmCause c s) := by
  obtain ⟨h1, h2, h3⟩ := h
  unfold Machine.takeAlarmCause
  split
  · exact .of_state (.inr (.inl rfl)) h3
  · exact ⟨h1, h2, h3⟩

omit h in
/-- A leaver from SECURED returns to it. -/
theorem Parked.returnToOrigin (ho : s.stc.origin = some .secured) (he : ∀ e ∈ s.agenda.ends, e.outcome = .superseded) :
    Parked (returnToOrigin s) := by
  unfold Machine.returnToOrigin
  rw [ho]
  refine .of_state (.inl ?_) ?_ <;> dsimp only <;> split
  exacts [rfl, rfl, he, he]

theorem Parked.hop (r : Hop s t) : Parked t := by
  have no (x : StationState) (h1 : x ≠ .secured) (h2 : x ≠ .alarm) (h3 : x ≠ .failed) (h4 : x ≠ .leaving) :
      s.stc.state ≠ x := h.ne h1 h2 h3 h4
  have releasing : s.stc.state ≠ .releasing := no _ (by simp) (by simp) (by simp) (by simp)
  have standing : s.stc.state ≠ .standstill := no _ (by simp) (by simp) (by simp) (by simp)
  have free : s.stc.state ≠ .free := no _ (by simp) (by simp) (by simp) (by simp)
  have service : s.stc.state ≠ .service := no _ (by simp) (by simp) (by simp) (by simp)
  have offline : s.stc.state ≠ .offline := no _ (by simp) (by simp) (by simp) (by simp)
  have holding : s.stc.state ≠ .holding := no _ (by simp) (by simp) (by simp) (by simp)
  have hu := h
  obtain ⟨h1, h2, h3⟩ := h
  cases r with
  | goto x hm =>
    cases exitMove_goto hm with
    | fails _ _ => exact .of_state (.inr (.inr rfl)) h3
    | startsStanding hs | startsFree hs => exact absurd hs offline
    | serves hs => exact hs.elim (fun hs => absurd hs free) (fun hs => absurd hs standing)
    | stands hs => exact hs.elim (fun hs => absurd hs free) (fun hs => absurd hs service)
    | secures hs => exact hs.elim (fun hs => absurd hs standing) (fun hs => absurd hs holding)
    | lifts hs | holds hs => exact absurd hs standing
    | resumes hs => exact absurd hs service
  | peerShows n _ => exact hu.takeAlarmCause _
  | peerAlarm n rest _ _ =>
    exact Parked.takeAlarmCause (s := { s with agenda := { s.agenda with peerAlarms := rest } }) ⟨h1, h2, h3⟩ _
  | rollaway r rest _ ha =>
    rw [takeRollaway, if_pos ha]
    exact .of_state (.inr (.inl rfl)) h3
  | exchange hm =>
    have hs : s.stc.state = .secured := (exitMove_exchange hm).1.resolve_left holding
    refine ⟨.inr (.inr (.inr rfl)), fun _ => ⟨?_, rfl, rfl⟩, h3⟩
    show some (originOf s.stc.state) = some .secured
    rw [hs]; rfl
  | withdraw hm => exact Parked.returnToOrigin (h2 ((exchanging_iff s).1 (exitMove_withdraw hm).1).1).1 h3
  | yield _ _ _ hx => exact Parked.returnToOrigin (h2 ((exchanging_iff s).1 hx).1).1 h3
  | unparked e rest he ho _ =>
    have := h3 e (by rw [he]; exact List.mem_cons_self)
    simp [ho] at this
  | rampOver hs hp _ =>
    have := (h2 hs).2.1
    simp [hp] at this
  | released hs _ _ | reheldAtOnce hs _ _ _ => exact absurd hs releasing
  | reheld _ hr => exact absurd ((reholds_iff s).1 hr).1 free
  | aborted _ hr _ | abortedByPeer _ hr => exact absurd ((releaseInProgress_iff s).1 hr).1 releasing

theorem Parked.minor (m : Minor s t) : Parked t := by
  have releasing : s.stc.state ≠ .releasing := h.ne (by simp) (by simp) (by simp) (by simp)
  obtain ⟨h1, h2, h3⟩ := h
  cases m with
  | tendHandoff =>
    refine ⟨h1, fun hs => ?_, h3⟩
    obtain ⟨k1, k2, k3⟩ := h2 hs
    exact ⟨k1, by simp [tendHandoff, k2], k3⟩
  | deferAsk =>
    unfold deferAsk
    split
    · rename_i hd
      simp only [Bool.and_eq_true, Bool.or_eq_true, decide_eq_true_eq] at hd
      refine ⟨h1, fun hs => ?_, h3⟩
      rcases hd.1.1.1.1 with e | e <;> cases e.symm.trans hs
    · exact ⟨h1, h2, h3⟩
  | testUnpark => unfold testUnpark; dsimp only; (repeat' split) <;> exact ⟨h1, h2, h3⟩
  | turn _ hs _ => exact absurd hs releasing
  | succeed hx hs =>
    have := exchangeSucceeds_of_no_replies (h2 ((exchanging_iff s).1 hx).1).2.2
    simp [this] at hs
  | _ => exact ⟨h1, h2, h3⟩

end

theorem kept_parked : Kept Parked where
  nearly := fun s t h q => by
    have e0 := state_of_standing q.standing
    refine ⟨by rw [e0]; exact h.state, fun hs => ?_, fun e he => (q.calls.ends e he).elim (h.ends e) id⟩
    obtain ⟨k1, k2, k3⟩ := h.leaving (e0.symm.trans hs)
    exact ⟨(congrArg (fun x => x.stc.origin) q.standing).trans k1, (congrArg (fun x => x.hoe.phase) q.standing).trans k2,
      (congrArg (fun x => x.hoe.replies) q.standing).trans k3⟩
  followLift := fun s h => by
    obtain ⟨h1, h2, h3⟩ := h
    unfold followLift
    split <;> exact ⟨h1, h2, h3⟩
  hop := fun _ _ h r => h.hop r
  minor := fun _ _ h m => h.minor m

/-- What MOD's outfit is but for the join. -/
def springs (m : Mod) : Bool × Bool × Timer := (m.parkCmd, m.springsCounted, m.springTimer)

theorem springs_of_outfit {m k : Mod} (h : m.outfit = k.outfit) : springs m = springs k :=
  congrArg (fun x : Outfit => (x.parkCmd, x.springsCounted, x.springTimer)) h

theorem springs_joinTo (j : Join) (s : State) : springs (joinTo j s).mod = springs s.mod := by
  rw [show (joinTo j s).mod = _ from takeModResult_mod _ _]
  exact congrArg (fun x : Outfit => (x.parkCmd, x.springsCounted, x.springTimer)) (Mod.outfit_joinTo j s.mod)

/-- The outputs of a state with the park valve off leave it off, and the springs as they are. -/
theorem springs_outputs_parked {s : State} (h : Parked s) (hp : s.mod.parkCmd = false) : springs (outputs s).mod = springs s.mod := by
  have e : (parkForState s).mod = s.mod := by
    rw [parkForState, h.parkOf]
    exact if_pos hp.symm
  rw [springs_of_outfit (outfit_outputs s), joinForState, springs_joinTo, e]

/-- No act energises the park valve of a parked station, or touches its springs. -/
theorem Parked.springs_act {s t : State} (h : Parked s) (hp : s.mod.parkCmd = false) (a : Act s t) :
    springs t.mod = springs s.mod := by
  have releasing : s.stc.state ≠ .releasing := h.ne (by simp) (by simp) (by simp) (by simp)
  cases a with
  | quiet q => exact springs_of_outfit q.outfit
  | followLift => rw [(followLift_fit s).2.1]
  | minor m _ => rw [(minor_fit m).2.1]
  | ventService _ => exact springs_joinTo _ _
  | turn _ hs _ => exact absurd hs releasing
  | succeed _ _ => exact (springs_of_outfit (outfit_appendSteps _ _ _)).trans (springs_joinTo _ _)
  | @moved u v r rs =>
    have hm : v.mod = s.mod := (mod_hops rs).trans (mod_hop r)
    have hv : Parked v := kept_parked.hops (kept_parked.hop _ _ h r) rs
    rw [springs_outputs_parked hv (by rw [hm]; exact hp), hm]

theorem springs_settle {s : State} (h : Parked s) (hp : s.mod.parkCmd = false) : springs (settle s).mod = springs s.mod := by
  have k : Parked (settle s) ∧ springs (settle s).mod = springs s.mod :=
    settle_of_acts (P := fun t => Parked t ∧ springs t.mod = springs s.mod)
      (fun t u ⟨h1, h2⟩ a => ⟨kept_parked.act h1 a, (h1.springs_act ((congrArg Prod.fst h2).trans hp) a).trans h2⟩) ⟨h, rfl⟩
  exact k.2

theorem sprung_eq (s : State) : ∃ b, sprung s = { s with
    mod := s.mod.springsApplied s.suc.spring, agenda := { s.agenda with plan := b } } := by
  unfold sprung askPlanIf askPlan
  split
  · exact ⟨true, rfl⟩
  · exact ⟨s.agenda.plan, rfl⟩

/-- Settles O33: the standstill flag is a steady part; vehicle-stationary stays as its timer set it; and the springs stay as
counted, since no transition from SECURED, ALARM or FAILED in this event energises the park valve. -/
theorem flagTimers : Obligations.FlagTimers := by
  refine ⟨fun s => ⟨fun h => ⟨_, exec_standstillTimerExpiry h, settle_standstill _, settle_standstillTimer _⟩, fun h => ?_,
    fun hs h => ⟨_, exec_vehicleStationaryTimerExpiry h, ?_⟩, fun h => ?_⟩, fun s => ⟨fun hs h hp hst => ?_, fun h => ?_⟩⟩
  · exact congrArg Host.Outcome.next (if_neg (by simp [timerRuns, h]))
  · have k := standsStill_settle hs
    exact ⟨k.stationary, k.no_timer (settle_settled _)⟩
  · exact congrArg Host.Outcome.next (if_neg (by simp [timerRuns, h]))
  · refine ⟨_, exec_springApplyTimerExpiry h, ?_⟩
    obtain ⟨b, e⟩ := sprung_eq s
    have he : ∀ x ∈ (sprung s).agenda.ends, x.outcome = .superseded := by
      rw [e]
      show ∀ x ∈ s.agenda.ends, _
      simp [hs.1]
    have hstate : (sprung s).stc.state = .secured ∨ (sprung s).stc.state = .alarm ∨ (sprung s).stc.state = .failed := by
      rw [e]; exact hst
    have hm : (sprung s).mod = s.mod.springsApplied s.suc.spring := by rw [e]
    have k := springs_settle (.of_state hstate he) (show (sprung s).mod.parkCmd = false by rw [hm]; exact hp)
    rw [hm] at k
    refine ⟨(congrArg (fun x => x.2.1) k).trans ?_, congrArg (fun x => x.2.2) k, (congrArg (fun x => x.1) k).trans hp⟩
    simp [springs, Mod.springsApplied, hp]
  · exact congrArg Host.Outcome.next (if_neg (by simp [timerRuns, h]))

end Sys2Proof.Machine
end

section
/-! PROOFS. LIMITED, the brake capacity and the replier records under the reports of an event; an entry that ages (O43). -/

namespace Sys2Proof.Machine

set_option Elab.async false

/-! ### The ledger -/

/-- LIMITED and the brake capacity with what it is formed from, and the replier records. -/
structure Ledger where
  limited : Bool
  bestAchieved : Nat
  cb : Nat
  pTop : Nat
  axle : Option AxleParams
  repliers : Table ReplierRecord

def Scenery.ledger (x : Scenery) : Ledger :=
  { limited := x.plan.limited, bestAchieved := x.plan.bestAchieved, cb := x.plan.cb, pTop := x.plan.pTop
    axle := x.steady.suc.axle, repliers := x.repliers }

def ledger (s : State) : Ledger := (scenery s).ledger

/-- The ledger stands, and the agenda has at most superseded steps more than before. -/
structure Beside (s t : State) : Prop where
  ledger : ledger t = ledger s
  ends : ∀ e ∈ t.agenda.ends, e ∈ s.agenda.ends ∨ e.outcome = .superseded

theorem Beside.of_same {s t : State} (h : Machine.ledger t = Machine.ledger s) (he : t.agenda.ends = s.agenda.ends) : Beside s t :=
  ⟨h, fun _ hx => .inl (he ▸ hx)⟩

theorem Beside.of_nearly {s t : State} (h : Machine.ledger t = Machine.ledger s) (q : Nearly s t) : Beside s t := ⟨h, q.calls.ends⟩

theorem Beside.of_follows {s t : State} (h : (scenery s).Follows (scenery t)) : Beside s t := by
  obtain ⟨l, r, hl, -, e⟩ := h
  have hends : t.agenda.ends = l := congrArg Scenery.ends e
  exact ⟨(congrArg Scenery.ledger e).trans rfl, fun x hx => .inl (hl (hends ▸ hx))⟩

theorem Beside.of_eq {s t : State} (h : scenery t = scenery s) : Beside s t := .of_follows (.of_eq h)

theorem Beside.trans {s t u : State} (h : Beside s t) (k : Beside t u) : Beside s u :=
  ⟨k.ledger.trans h.ledger, fun e he => (k.ends e he).elim (h.ends e) .inr⟩

theorem Beside.after {s t u : State} (k : Beside t u) (h : Beside s t) : Beside s u := h.trans k

theorem beside_sync (s : State) : Beside s (sync s) := .of_same rfl rfl

theorem beside_levels (s : State) : Beside s (levels s) := ⟨rfl, fun _ he => by simp [levels] at he⟩

theorem ledger_takeModResult (r : ModResult) (s : State) : ledger (takeModResult r s) = ledger s := by
  unfold takeModResult
  dsimp only
  (repeat' split) <;> rfl

theorem beside_joinTo (j : Join) (s : State) : Beside s (joinTo j s) :=
  .of_nearly (ledger_takeModResult _ _) (nearly_joinTo j s)

theorem beside_appendSteps (x : Source) (l : List Step) (s : State) : Beside s (appendSteps x l s) :=
  .of_nearly (ledger_takeModResult _ _) (nearly_appendSteps x l s)

theorem beside_parkForState (s : State) : Beside s (parkForState s) := by
  unfold parkForState
  split <;> exact .of_same rfl rfl

theorem beside_callStatusIf (b : Bool) (s : State) : Beside s (callStatusIf b s) := by
  cases b <;> exact .of_same rfl rfl

theorem beside_currentConditions (s : State) : Beside s (currentConditions s) := by
  unfold currentConditions
  dsimp only
  (repeat' split) <;> exact .of_same rfl rfl

/-- A computation writes the plan record, and then what stands beside of it (R53). -/
theorem beside_compute (s : State) : Beside { s with hpl := computedPlan s } (compute s) :=
  (beside_currentConditions { s with hpl := computedPlan s }).trans (beside_callStatusIf _ _)

/-- What the end of a step calls for (R85). -/
theorem beside_asks (s : State) : Beside s (askPlan (askExits (askAnswers (askRamp s)))) := .of_same rfl rfl

theorem beside_formDownhill (s : State) : Beside s (formDownhill s) := by
  unfold formDownhill rollawayTest
  dsimp only
  (repeat' split) <;> exact .of_same rfl rfl

theorem beside_submissionDecision (b : Bool) (s : State) : Beside s (submissionDecision b s) := by
  unfold submissionDecision submitTarget
  split
  · split
    · exact (beside_appendSteps _ _ _).after (.of_same rfl rfl)
    · exact .of_same rfl rfl
  · exact .of_same rfl rfl

/-! ### What the reports of an event keep of the ledger -/

/-- A predicate on the ledger that a computation, an answer to a leaver and the end of a step keep. -/
structure Filed (P : State → Prop) : Prop where
  beside : ∀ {s t}, P s → Beside s t → P t
  computes : ∀ {s}, P s → P { s with hpl := computedPlan s }
  answers : ∀ {s n x} a, P s → (s.hoe.repliers.get n).toggle = some x →
    P { s with hoe := { s.hoe with repliers := s.hoe.repliers.set n { s.hoe.repliers.get n with answer := some a } } }
  ended : ∀ {s e}, P s → e ∈ s.agenda.ends → P (limitedByEnd e s)

namespace Filed

variable {P : State → Prop} (k : Filed P) {s t : State} (h : P s)

include k h

theorem hop (r : Hop s t) : P t := k.beside h (.of_follows (scenery_hop r))

theorem followLift : P (followLift s) := k.beside h (.of_eq (scenery_followLift s))

theorem minor (m : Minor s t) : P t := k.beside h (.of_eq (scenery_minor m))

theorem compute : P (compute s) := k.beside (k.computes h) (beside_compute s)

theorem outputs : P (outputs s) := by
  have h1 : P (joinForState (parkForState s)) := k.beside h ((beside_parkForState s).trans (beside_joinTo _ _))
  unfold Machine.outputs alarmStep
  dsimp only
  split
  · exact k.beside (k.compute (k.beside h1 (beside_sync _))) (beside_appendSteps _ _ _)
  · exact h1

omit h in
theorem hops (r : Hops s t) : P s → P t := by
  intro h
  induction r with
  | refl => exact h
  | tail _ r ih => exact r.elim (k.hop ih) (fun e => e ▸ k.followLift ih)

theorem afterMove : P (afterMove s) := k.outputs (k.hops (hops_chain _ _) h)

/-- A transition with all that follows it. -/
theorem moved (r : Hop s t) : P (Machine.afterMove t) := k.afterMove (k.hop h r)

theorem testExits : P (testExits s) := by
  have h1 : P (tendHandoff (Machine.followLift s)) := k.minor (k.followLift h) .tendHandoff
  unfold Machine.testExits
  dsimp only
  split
  · exact k.moved h1 (hop_applyMove ‹_›)
  · have h2 := k.minor (k.minor h1 .deferAsk) .testUnpark
    unfold testService
    split
    · exact k.beside h2 (beside_joinTo _ _)
    · exact h2

theorem planEvent (b : Bool) : P (planEvent b s) := by
  have h1 : P (Machine.compute (comparePlausibility s)) := k.compute (k.beside h (.of_same rfl rfl))
  have pending (u : State) (hu : P u) :
      P { u with hoe := { u.hoe with planPending := u.hoe.planPending && !fullState u.stc.state } } :=
    k.beside hu (.of_same rfl rfl)
  have ask (u : State) (hu : P u) : P { u with agenda := { u.agenda with exits := true, success := true, answers := true } } :=
    k.beside hu (.of_same rfl rfl)
  exact k.beside (ask _ (k.beside (pending _ h1) (beside_formDownhill _))) (beside_submissionDecision b _)

theorem placeReply {n : StationNo} {x y : Bool} (a : Answer) (hx : (s.hoe.repliers.get n).toggle = some x) :
    P (placeReply n y a s) :=
  k.beside (k.answers a h hx) (.of_same rfl rfl)

theorem reformAnswers : P (reformAnswers s) := by
  have one (u : State) (n : StationNo) (hu : P u) : P (reformAnswer u n) := by
    unfold reformAnswer
    split
    · rename_i ht _
      split
      · exact hu
      · exact k.placeReply hu _ ht
    · exact hu
  have all (l : List StationNo) (u : State) (hu : P u) : P (l.foldl reformAnswer u) := by
    induction l generalizing u with
    | nil => exact hu
    | cons n l ih => exact ih _ (one u n hu)
  exact all _ s h

theorem takeEnd {e : StepEnd} {rest : List StepEnd} (he : s.agenda.ends = e :: rest) :
    P (takeEnd e { s with agenda := { s.agenda with ends := rest } }) := by
  have hm : e ∈ s.agenda.ends := by rw [he]; exact List.mem_cons_self
  have hr : P (countRampStep e (limitedByEnd e s)) :=
    k.minor (k.ended h hm) (.countRampStep e (by rwa [(limitedByEnd_agenda e s {}).2]))
  have hn : P (noteEnd e s) := k.beside hr (beside_asks _)
  have hl : (noteEnd e s).agenda.ends = e :: rest := (ends_noteEnd e s).trans he
  have pop : Beside (noteEnd e s) { noteEnd e s with agenda := { (noteEnd e s).agenda with ends := rest } } :=
    ⟨rfl, fun x hx => .inl (by rw [hl]; exact List.mem_cons_of_mem _ hx)⟩
  rw [takeEnd_eq, noteEnd_pop]
  unfold takeUnparkEnd
  split
  · rename_i hc
    have hs : (noteEnd e s).stc.state = .secured := by simp only [Bool.and_eq_true, decide_eq_true_eq] at hc; exact hc.1.1.1
    split
    · exact k.moved hn (.unparked e rest hl ‹_› hs)
    · exact k.beside (k.beside hn pop) (.of_same rfl rfl)
    · exact k.beside hn pop
    · exact k.beside hn pop
  · exact k.beside hn pop

theorem takeAbortEvent (ha : s.agenda.abortEvent = true) :
    P (takeAbortEvent { s with agenda := { s.agenda with abortEvent := false } }) := by
  unfold Machine.takeAbortEvent
  split
  · exact k.moved h (.abortedByPeer ha ‹_›)
  · split
    · exact k.moved h (.reheld ha ‹_›)
    · exact k.beside h (.of_same rfl rfl)

theorem testAbort : P (testAbort s) := by
  unfold Machine.testAbort
  split
  · rename_i hr
    split
    · exact k.moved h (.aborted _ hr (.inl ‹_›))
    · split
      · exact k.moved h (.aborted _ hr (.inr ‹_›))
      · exact h
  · exact h

theorem testRamp : P (testRamp s) := by
  unfold Machine.testRamp
  split
  · rename_i hc
    simp only [Bool.and_eq_true, decide_eq_true_eq] at hc
    rw [endHandoffRamp_eq]
    exact k.moved h (.rampOver hc.1.1 hc.1.2 hc.2)
  · split
    · rename_i hc
      simp only [Bool.and_eq_true, decide_eq_true_eq] at hc
      rw [completeRelease_eq]
      split
      · exact k.moved h (.reheldAtOnce hc.1.1 hc.1.2 hc.2 ‹_›)
      · exact k.moved h (.released hc.1.1 hc.1.2 hc.2)
    · exact h

theorem testTurn : P (testTurn s) := by
  have h1 : P { s with rsq := s.rsq.takeTurn } := k.beside h (.of_same rfl rfl)
  unfold Machine.testTurn takeTurn
  split
  · exact k.beside h1 (beside_appendSteps _ _ _)
  · exact h

theorem testSuccess : P (testSuccess s) := by
  have h0 : P { s with hoe := { s.hoe with phase := .ramp, attemptTimer := none, rampSteps := 0 } } :=
    k.beside h (.of_same rfl rfl)
  have h1 := k.beside h0 (beside_joinTo .release _)
  unfold Machine.testSuccess
  split
  · exact k.beside h1 (beside_appendSteps _ _ _)
  · exact h

/-- Every report keeps it. -/
theorem report (r : Report s t) : P t := by
  have pop (a : Agenda) (ha : a.ends = s.agenda.ends) : P { s with agenda := a } := k.beside h (.of_same rfl ha)
  cases r with
  | stepEnd e rest he => exact k.takeEnd h he
  | rollaway r rest hr =>
    unfold takeOwnRollaway
    dsimp only
    split
    · exact k.moved h (.rollaway r rest hr ‹_›)
    · rename_i ha
      rw [show takeRollaway r { s with agenda := { s.agenda with rollaways := rest } }
        = countAlarm { s with agenda := { s.agenda with rollaways := rest } } from if_neg ha]
      exact k.beside h (.of_same rfl rfl)
  | peerAlarm n rest hn =>
    unfold takePeerAlarm
    dsimp only
    split
    · exact k.moved h (.peerAlarm n rest hn ‹_›)
    · rename_i ha
      rw [show takeAlarmCause (peerCause n) { s with agenda := { s.agenda with peerAlarms := rest } }
        = countAlarm { s with agenda := { s.agenda with peerAlarms := rest } } from if_neg ha]
      exact k.beside h (.of_same rfl rfl)
  | abortEvent ha => exact k.takeAbortEvent h ha
  | yield m rest hm =>
    unfold testYield
    split
    · exact k.moved h (.yield m rest hm (Bool.and_eq_true_iff.1 ‹_›).1)
    · exact pop _ rfl
  | exits _ => exact k.testExits (pop { s.agenda with exits := false } rfl)
  | plan _ => exact k.planEvent (pop { s.agenda with plan := false, force := false } rfl) _
  | abortTest _ => exact k.testAbort (pop { s.agenda with abortTest := false } rfl)
  | turn _ => exact k.testTurn (pop { s.agenda with turn := false } rfl)
  | ramp _ => exact k.testRamp (pop { s.agenda with ramp := false } rfl)
  | success _ => exact k.testSuccess (pop { s.agenda with success := false } rfl)
  | answers _ => exact k.reformAnswers (pop { s.agenda with answers := false } rfl)

omit h in
theorem sync (h : P s) : P (sync s) := k.beside h (beside_sync s)

theorem drain (n : Nat) : P (drain n s) :=
  drain_induction (P := P) (fun _ => k.sync) (fun _ _ => k.report) n h

/-- Settling keeps it. -/
theorem settle : P (settle s) :=
  k.beside (k.drain h reportLimit) (beside_levels (Machine.drain reportLimit s))

end Filed

/-! ### A replier record -/

theorem repliers_of_beside {s t : State} (h : Beside s t) : t.hoe.repliers = s.hoe.repliers := congrArg Ledger.repliers h.ledger

theorem hoe_limitedByEnd (e : StepEnd) (s : State) : (limitedByEnd e s).hoe = s.hoe := by
  unfold limitedByEnd setLimited clearLimited callStatusIf
  dsimp only
  (repeat' split) <;> rfl

/-- A predicate on the replier record of one station that an answer of the own keeps. -/
theorem filed_replier {n : StationNo} {p : ReplierRecord → Prop} (hp : ∀ r x a, r.toggle = some x → p r → p { r with answer := some a }) :
    Filed (fun s => p (s.hoe.repliers.get n)) where
  beside := fun h a => by rw [repliers_of_beside a]; exact h
  computes := id
  answers := fun {s m x} a h hx => by
    by_cases e : n = m
    · subst e
      simpa using hp _ x a hx h
    · simpa [Table.get_set_of_ne _ _ e] using h
  ended := fun h _ => by rw [hoe_limitedByEnd]; exact h

/-- A record without a REQUEST gets no answer (R120). -/
theorem filed_cleared (n : StationNo) :
    Filed (fun s => (s.hoe.repliers.get n).toggle = none ∧ (s.hoe.repliers.get n).answer = none) :=
  filed_replier (p := fun r => r.toggle = none ∧ r.answer = none)
    (fun _ _ _ hx h => by rw [h.1] at hx; cases hx)

/-! ### A reply gathered -/

/-- No report gathers a reply (R108). -/
theorem kept_noReply (n : StationNo) : Kept (fun s => s.hoe.replies.get n = none) where
  nearly := fun _ _ h q => (congrArg (fun x => x.hoe.replies.get n) q.standing).trans h
  followLift := fun s h => (congrArg (fun x => x.replies.get n) (scenery_followLift s)).trans h
  hop := fun s t h r => by
    obtain ⟨l, r, -, hr, e⟩ := scenery_hop r
    have hx : t.hoe.replies = r := congrArg Scenery.replies e
    rw [hx]
    rcases hr with rfl | rfl
    · exact h
    · exact Table.get_fill _ _
  minor := fun _ _ h m => (congrArg (fun x => x.replies.get n) (scenery_minor m)).trans h

/-! ### An entry that ages (R27, R28) -/

/-- The state of an entry that leaves the FRESH ones or the table, before its reports. -/
def dropped (n : StationNo) (e : Entry) (s : State) : State :=
  let u := setEntry n e { s with hoe := (s.hoe.forgetReply n).clearReplier n }
  { u with agenda := { u.agenda with exits := true, success := true } }

/-- What is left of an entry dropped: the content given, no reply gathered and no REQUEST on record (R108, R120). -/
theorem settle_dropped {n : StationNo} {s : State} (hn : n ≠ own s) (e : Entry) :
    entryOf (settle (dropped n e s)) n = e ∧ (settle (dropped n e s)).hoe.replies.get n = none
      ∧ ((settle (dropped n e s)).hoe.repliers.get n).toggle = none := by
  have he : (dropped n e s).ptb.entries.get n = e := Table.get_set_self _ _ _
  have hr : (dropped n e s).hoe.replies.get n = none := Table.get_set_self _ _ _
  have hc : ((dropped n e s).hoe.repliers.get n).toggle = none ∧ ((dropped n e s).hoe.repliers.get n).answer = none := by
    simp [dropped, setEntry, Hoe.clearReplier, Hoe.forgetReply]
  exact ⟨(settle_entry (dropped n e s) hn).trans he, (kept_noReply n).settle hr, ((filed_cleared n).settle hc).1⟩

/-- An entry gone STALE keeps its content (R27). -/
def staled (e : Entry) : Entry := { e with presence := .stale, deadline := none, leaving := false }

theorem exec_entryStalenessDeadline {n : StationNo} {s : State} (hn : n ≠ own s) (hf : (entryOf s n).presence = .fresh)
    (ht : (entryOf s n).deadline.isSome = true) :
    exec (.entryStalenessDeadline n) s = .next (settle (dropped n (staled (entryOf s n)) s)) :=
  congrArg Host.Outcome.next (if_pos (by simp [hn, hf, ht, Entry.isFresh, timerRuns]))

theorem exec_entryAbsent {n : StationNo} {s : State} (hn : n ≠ own s) (hp : (entryOf s n).presence ≠ .absent) :
    exec (.entryAbsent n) s = .next (settle (dropped n blankEntry s)) :=
  congrArg Host.Outcome.next (if_pos (by simp [hn, hp]))

/-- Settles O43: no report of the event writes a peer's entry, gathers its reply or records its REQUEST. -/
theorem entriesAge : Obligations.EntriesAge := by
  intro n s
  refine ⟨fun hn hf ht => ?_, fun hn hp => ?_, fun hn => ⟨?_, ?_⟩⟩
  · exact ⟨_, exec_entryStalenessDeadline hn hf ht, settle_dropped hn (staled (entryOf s n))⟩
  · exact ⟨_, exec_entryAbsent hn hp, settle_dropped hn blankEntry⟩
  · exact congrArg Host.Outcome.next (if_neg (by simp [hn]))
  · exact congrArg Host.Outcome.next (if_neg (by simp [hn]))

end Sys2Proof.Machine
end

section
/-! PROOFS. The plausibility timer, and the limit timer with the brake capacity that follows from it (O36). -/

namespace Sys2Proof.Machine

set_option Elab.async false

/-! ### The plausibility timer (R48) -/

/-- The own grade failed by its timer, before the reports that follow. -/
def implausible (s : State) : State :=
  raiseFault .gradeSensor { s with glu := { s.glu with plausibilityTimer := none, plausibilityFailed := true } }

theorem exec_plausibilityTimerExpiry {s : State} (h : s.glu.plausibilityTimer.isSome = true) :
    exec .plausibilityTimerExpiry s = .next (settle (implausible s)) := congrArg Host.Outcome.next (if_pos h)

/-- A station with GRADE_SENSOR set announces no grade (R46). -/
theorem Settled.no_grade {s : State} (h : Settled s) (hf : hasFault s .gradeSensor = true) : s.glu.gradeValid = false := by
  have hf : s.stc.faults.gradeSensor = true := hf
  rw [← h.agree.grade]
  simp [gradeValidOf, hf]

/-! ### The capacity of a computation (R57) -/

/-- A computation leaves LIMITED as it is, and forms the brake capacity from it wherever it forms one. -/
structure Forms (s : State) (p : Plan) : Prop where
  limited : p.limited = s.hpl.limited
  best : p.bestAchieved = s.hpl.bestAchieved
  cb : ∀ a, s.suc.axle = some a →
    p.cb = capacityPressure s.hpl p.pTop * a.brakeGain / 100 ∨ (p.cb = s.hpl.cb ∧ p.pTop = s.hpl.pTop)

theorem forms_fullPlan {s : State} {a : AxleParams} : (fullPlan s a).limited = s.hpl.limited
    ∧ (fullPlan s a).bestAchieved = s.hpl.bestAchieved
    ∧ (fullPlan s a).cb = capacityPressure s.hpl (fullPlan s a).pTop * a.brakeGain / 100 := by
  unfold fullPlan springStage shareStage
  split <;> split <;> exact ⟨rfl, rfl, rfl⟩

theorem forms_outsidePlan (s : State) : Forms s (outsidePlan s) := by
  unfold outsidePlan
  dsimp only
  split
  · rename_i a ha
    exact ⟨rfl, rfl, fun b hb => by cases ha.symm.trans hb; exact .inl rfl⟩
  · exact ⟨rfl, rfl, fun _ _ => .inr ⟨rfl, rfl⟩⟩

theorem forms_computedPlan (s : State) : Forms s (computedPlan s) := by
  have same : Forms s s.hpl := ⟨rfl, rfl, fun _ _ => .inr ⟨rfl, rfl⟩⟩
  unfold computedPlan
  split
  case h_4 | h_5 | h_6 | h_7 | h_8 =>
    cases ha : s.suc.axle with
    | none => exact same
    | some a =>
      obtain ⟨h1, h2, h3⟩ := forms_fullPlan (s := s) (a := a)
      exact ⟨h1, h2, fun b hb => by cases ha.symm.trans hb; exact .inl h3⟩
  case h_9 =>
    cases ha : s.suc.axle with
    | none => exact same
    | some a => exact ⟨rfl, rfl, fun _ _ => .inr ⟨rfl, rfl⟩⟩
  case h_10 => exact same
  all_goals exact forms_outsidePlan s

/-! ### LIMITED under an event (R64) -/

/-- The station shows LIMITED with the pressure `b`, and only superseded steps end. -/
structure LimitedAt (b : Nat) (s : State) : Prop where
  limited : s.hpl.limited = true
  best : s.hpl.bestAchieved = b
  ends : ∀ e ∈ s.agenda.ends, e.outcome = .superseded

/-- The brake capacity is that of the best pressure achieved (R57). -/
structure CappedAt (b : Nat) (s : State) : Prop extends LimitedAt b s where
  cb : ∀ a, s.suc.axle = some a → s.hpl.cb = min b s.hpl.pTop * a.brakeGain / 100

theorem limitedByEnd_superseded {e : StepEnd} (h : e.outcome = .superseded) (s : State) : limitedByEnd e s = s := by
  rw [limitedByEnd, h]

theorem LimitedAt.beside {b : Nat} {s t : State} (h : LimitedAt b s) (k : Beside s t) : LimitedAt b t where
  limited := (congrArg Ledger.limited k.ledger).trans h.limited
  best := (congrArg Ledger.bestAchieved k.ledger).trans h.best
  ends := fun e he => (k.ends e he).elim (h.ends e) id

theorem LimitedAt.computes {b : Nat} {s : State} (h : LimitedAt b s) : LimitedAt b { s with hpl := computedPlan s } where
  limited := (forms_computedPlan s).limited.trans h.limited
  best := (forms_computedPlan s).best.trans h.best
  ends := h.ends

theorem filed_limitedAt (b : Nat) : Filed (LimitedAt b) where
  beside := LimitedAt.beside
  computes := LimitedAt.computes
  answers := fun _ h _ => ⟨h.limited, h.best, h.ends⟩
  ended := fun {s e} h he => by rw [limitedByEnd_superseded (h.ends e he)]; exact h

theorem LimitedAt.capacityPressure {b : Nat} {s : State} (h : LimitedAt b s) (n : Nat) : capacityPressure s.hpl n = min b n := by
  rw [Machine.capacityPressure, h.limited, h.best, if_pos rfl]

theorem filed_cappedAt (b : Nat) : Filed (CappedAt b) where
  beside := fun {s t} h k => by
    refine ⟨h.toLimitedAt.beside k, fun a ha => ?_⟩
    have e1 : t.hpl.cb = s.hpl.cb := congrArg Ledger.cb k.ledger
    have e2 : t.hpl.pTop = s.hpl.pTop := congrArg Ledger.pTop k.ledger
    rw [e1, e2]
    exact h.cb a ((congrArg Ledger.axle k.ledger).symm.trans ha)
  computes := fun {s} h => by
    refine ⟨h.toLimitedAt.computes, fun a ha => ?_⟩
    rcases (forms_computedPlan s).cb a ha with e | ⟨e1, e2⟩
    · rw [e, h.toLimitedAt.capacityPressure]
    · rw [e1, e2]
      exact h.cb a ha
  answers := fun _ h _ => ⟨⟨h.limited, h.best, h.ends⟩, h.cb⟩
  ended := fun {s e} h he => by rw [limitedByEnd_superseded (h.ends e he)]; exact h

/-- A plan event of a hold caps the brake capacity (R57). -/
theorem LimitedAt.planEvent {b : Nat} {s : State} (h : LimitedAt b s) (hs : s.stc.state = .holding ∨ s.stc.state = .secured)
    (f : Bool) : CappedAt b (planEvent f s) := by
  have hl := (filed_limitedAt b).planEvent h f
  refine ⟨hl, fun a ha => ?_⟩
  have hsuc : s.suc.axle = some a := by rw [← suc_of_steady (quietly_planEvent f s).steady]; exact ha
  obtain ⟨l, w, e⟩ := planEvent_hpl f hs hsuc
  obtain ⟨-, -, hc⟩ := forms_fullPlan (s := s) (a := a)
  rw [e]
  exact hc.trans (by rw [h.capacityPressure])

/-! ### The limit timer (R64) -/

theorem exec_limitTimerExpiry {s : State} {f : InFlight} (h : s.hpl.limitTimer.isSome = true) (hf : s.mod.inFlight = some f) :
    exec .limitTimerExpiry s = .next (settle (setLimited f.highest s)) := by
  have e : highestPressure s.mod = f.highest := by rw [highestPressure, hf]; rfl
  rw [← e]
  exact congrArg Host.Outcome.next (if_pos h)

theorem setLimited_eq (b : Nat) (s : State) : ∃ l, setLimited b s = { s with
    lnk := l, hpl := { s.hpl with limited := true, bestAchieved := b, limitTimer := none } } := by
  unfold setLimited callStatusIf
  split
  · exact ⟨_, rfl⟩
  · exact ⟨s.lnk, rfl⟩

theorem limitedAt_setLimited {b : Nat} {s : State} (ha : s.agenda = {}) : LimitedAt b (setLimited b s) := by
  obtain ⟨l, e⟩ := setLimited_eq b s
  rw [e]
  exact ⟨rfl, rfl, by simp [ha]⟩

/-- The own entry shows the flag once the event is over (R25). -/
theorem LimitedAt.shown {b : Nat} {s : State} (h : LimitedAt b s) (hs : Settled s) :
    (entryOf s (own s)).flags.limited = true := by
  rw [hs.agree.entry]
  exact h.limited

/-- In the pool, the own entry's coming to show LIMITED is a plan event, and nothing else is called for (R34, R42). -/
theorem agenda_setLimited {b : Nat} {s : State} (h : Settled s) (hn : own s ∈ s.ptb.pool) (hf : s.hpl.limited = false) :
    (sync (setLimited b s)).agenda.exits = false ∧ (sync (setLimited b s)).agenda.plan = true := by
  have hs := h.agree.toSynced
  have hq := alike_of_quietly (quietly_setLimited b s)
  have hi := (mem_pool_iff hs).1 hn
  rw [hs.entry] at hi
  obtain ⟨l, e⟩ := setLimited_eq b s
  have hptb : (setLimited b s).ptb = s.ptb := by rw [e]
  have e4 := exitValues_sync hs hq hptb
  have ha : (setLimited b s).agenda = {} := by rw [e]; exact h.1
  have hc : poolEntryChanged (entryOf (setLimited b s) (own (setLimited b s))) (ownEntry (refreshValidity (setLimited b s))) = true := by
    have e1 : (entryOf (setLimited b s) (own (setLimited b s))).flags.limited = false := by
      rw [e]
      exact (congrArg (fun x => x.flags.limited) hs.entry).trans hf
    have e2 : (ownEntry (refreshValidity (setLimited b s))).inPool = true := by rw [e]; exact hi
    have e3 : (ownEntry (refreshValidity (setLimited b s))).flags.limited = true := by rw [e]; rfl
    have e4 : (entryOf (setLimited b s) (own (setLimited b s))).flags ≠ (ownEntry (refreshValidity (setLimited b s))).flags := by
      intro he
      rw [he, e3] at e1
      cases e1
    simp [poolEntryChanged, e2, e4]
  refine ⟨?_, ?_⟩
  · show ((setLimited b s).agenda.exits || exitValuesDiffer (setLimited b s).ptb (sync (setLimited b s)).ptb) = false
    rw [e4, ha]
    rfl
  · show (_ || poolEntryChanged (entryOf (setLimited b s) (own (setLimited b s))) (ownEntry (refreshValidity (setLimited b s)))) = true
    rw [hc, Bool.or_true]

/-- A holding station in the pool computes first, and its capacity stays that of the pressure recorded (R42, R57). -/
theorem cappedAt_setLimited {b : Nat} {s : State} (h : Settled s) (hs : s.stc.state = .holding ∨ s.stc.state = .secured)
    (hn : own s ∈ s.ptb.pool) (hf : s.hpl.limited = false) : CappedAt b (settle (setLimited b s)) := by
  obtain ⟨hx, hp⟩ := agenda_setLimited (b := b) h hn hf
  obtain ⟨l, e⟩ := setLimited_eq b s
  have ha : (setLimited b s).agenda = {} := by rw [e]; exact h.1
  have hst : (setLimited b s).stc.state = s.stc.state := by rw [e]
  generalize hu : setLimited b s = u at hx hp ha hst
  have he : (sync u).agenda.ends = [] ∧ (sync u).agenda.rollaways = [] ∧ (sync u).agenda.peerAlarms = []
      ∧ (sync u).agenda.yields = [] ∧ (sync u).agenda.abortEvent = false :=
    ⟨congrArg Agenda.ends ha, congrArg Agenda.rollaways ha, congrArg Agenda.peerAlarms ha, congrArg Agenda.yields ha,
      congrArg Agenda.abortEvent ha⟩
  obtain ⟨h1, h2, h3, h4, h5⟩ := he
  have hr : nextReport (sync u) = some (planEvent (sync u).agenda.force
      { sync u with agenda := { (sync u).agenda with plan := false, force := false } }) := by
    simp [nextReport, h1, h2, h3, h4, h5, hx, hp]
  have hd : drain reportLimit u = drain 63 (planEvent (sync u).agenda.force
      { sync u with agenda := { (sync u).agenda with plan := false, force := false } }) := by
    show drain (63 + 1) u = _
    rw [drain, hr]
  have hl : LimitedAt b { sync u with agenda := { (sync u).agenda with plan := false, force := false } } := by
    refine (LimitedAt.beside ?_ (beside_sync u)).beside (.of_same rfl rfl)
    rw [← hu]
    exact limitedAt_setLimited h.1
  have hc := hl.planEvent (hst ▸ hs) (sync u).agenda.force
  rw [settle, hd]
  exact (filed_cappedAt b).beside ((filed_cappedAt b).drain hc 63) (beside_levels _)

/-- Settles O36: the flag and LIMITED stay under every report of the event, and where the own entry is in the pool the first
report is the computation that forms the capacity. -/
theorem gradeAndLimitTimers : Obligations.GradeAndLimitTimers := by
  refine ⟨fun s h => ?_, fun s f hs h hf => ⟨_, exec_limitTimerExpiry h hf, ?_⟩⟩
  · have hg : hasFault (settle (implausible s)) .gradeSensor = true :=
      (kept_flag (f := .gradeSensor) rfl).settle (hasFault_putFault_self _ _ _)
    exact ⟨_, exec_plausibilityTimerExpiry h, settle_plausibilityFailed _, hg, (settle_settled _).no_grade hg⟩
  · have hl := (filed_limitedAt f.highest).settle (limitedAt_setLimited hs.1)
    have hown : own (settle (setLimited f.highest s)) = own s :=
      own_of_steady ((steady_settle _).trans (steady_setLimited _ _))
    refine ⟨hl.limited, hl.best, ?_, fun a _ hst ha hn hn' => ?_⟩
    · rw [← hown]
      exact hl.shown (settle_settled _)
    · refine (cappedAt_setLimited hs hst hn hn').cb a ?_
      rw [settle_suc, suc_of_steady (steady_setLimited _ _)]
      exact ha

end Sys2Proof.Machine
end

section
/-! PROOFS. A REQUEST and a CANCEL of another leaver: the mark, the record and the immediate STATUS (O46). -/

namespace Sys2Proof.Machine

set_option Elab.async false

/-! ### The immediate STATUS stays called for (R156) -/

theorem statusPending_takeAlarmCause (c : AlarmCause) {s : State} (h : s.lnk.statusPending = true) :
    (takeAlarmCause c s).lnk.statusPending = true := by
  unfold takeAlarmCause
  split
  · rfl
  · exact h

theorem statusPending_returnToOrigin (s : State) : (returnToOrigin s).lnk.statusPending = true := by
  unfold returnToOrigin
  dsimp only
  split <;> rfl

theorem statusPending_followLift (s : State) : (followLift s).lnk.statusPending = s.lnk.statusPending := by
  unfold followLift
  split <;> rfl

theorem statusPending_rehold {s : State} (h : s.lnk.statusPending = true) : (rehold s).lnk.statusPending = true := by
  unfold rehold
  dsimp only
  split
  · exact h
  · rfl

theorem statusPending_hop {s t : State} (h : s.lnk.statusPending = true) (r : Hop s t) : t.lnk.statusPending = true := by
  have released : (released s).lnk.statusPending = true := statusPending_followLift _
  cases r with
  | goto _ _ | exchange _ | unparked _ _ _ _ _ | aborted _ _ _ | abortedByPeer _ _ => rfl
  | peerShows _ _ | peerAlarm _ _ _ _ => exact statusPending_takeAlarmCause _ h
  | rollaway c rest _ ha => rw [takeRollaway, if_pos ha]; rfl
  | withdraw _ | yield _ _ _ _ => exact statusPending_returnToOrigin _
  | rampOver _ _ _ => unfold rampOver; dsimp only; split <;> rfl
  | released _ _ _ => exact released
  | reheldAtOnce _ _ _ _ => exact statusPending_rehold released
  | reheld _ _ => exact statusPending_rehold h

theorem kept_statusPending : Kept (fun s => s.lnk.statusPending = true) where
  nearly := fun _ _ h q => q.status h
  followLift := fun s h => (statusPending_followLift s).trans h
  hop := fun _ _ => statusPending_hop
  minor := fun s t h m => by
    cases m with
    | deferAsk => unfold deferAsk; split <;> exact h
    | testUnpark => unfold testUnpark; dsimp only; (repeat' split) <;> exact h
    | _ => exact h

/-! ### The REQUEST (R116) -/

/-- A REQUEST recorded, before its answer and the reports that follow. -/
def requested (m : StationNo) (q : RequestBody) (s : State) : State :=
  let u := callStatus (setEntry m { entryOf s m with leaving := true } s)
  { u with
    hoe := { u.hoe with repliers := u.hoe.repliers.set m ((s.hoe.repliers.get m).request q) }
    agenda := { u.agenda with
      yields := u.agenda.yields ++ [m], exits := true, success := true
      answers := u.agenda.answers
        || (decide ((s.hoe.repliers.get m).toggle ≠ some q.toggle) && (entryOf s m).inPool) } }

theorem takeRequest_eq (m : StationNo) (q : RequestBody) (s : State) :
    takeRequest m q s = settle (requested m q s) ∨ takeRequest m q s = settle (answerNow m q.toggle (requested m q s)) := by
  unfold takeRequest
  dsimp only
  split
  · exact .inl rfl
  · exact .inr rfl

theorem request_toggle (q : RequestBody) (r : ReplierRecord) :
    (r.request q).toggle = some q.toggle ∧ (r.request q).force = q.force := by
  unfold ReplierRecord.request
  split
  · exact ⟨‹_›, rfl⟩
  · exact ⟨rfl, rfl⟩

/-- An answer of the own leaves the toggle and the force of a record. -/
theorem filed_requested (m : StationNo) (x : Bool) (f : Nat) :
    Filed (fun s => (s.hoe.repliers.get m).toggle = some x ∧ (s.hoe.repliers.get m).force = f) :=
  filed_replier (p := fun r => r.toggle = some x ∧ r.force = f) (fun _ _ _ _ h => h)

/-- The answer at once is a REPLY placed, where the state sends one (R116). -/
theorem answerNow_eq (m : StationNo) (x : Bool) (s : State) : answerNow m x s = s ∨ ∃ a, answerNow m x s = placeReply m x a s := by
  unfold answerNow
  split
  · exact .inr ⟨_, rfl⟩
  · exact .inl rfl

/-- What a REQUEST leaves of its leaver: the mark, the record and the immediate STATUS. -/
structure Recorded (m : StationNo) (q : RequestBody) (e : Entry) (s : State) : Prop where
  entry : entryOf s m = e
  toggle : (s.hoe.repliers.get m).toggle = some q.toggle
  force : (s.hoe.repliers.get m).force = q.force
  status : s.lnk.statusPending = true

theorem recorded_requested (m : StationNo) (q : RequestBody) (s : State) :
    Recorded m q { entryOf s m with leaving := true } (requested m q s) := by
  obtain ⟨h1, h2⟩ := request_toggle q (s.hoe.repliers.get m)
  have hr : (requested m q s).hoe.repliers.get m = (s.hoe.repliers.get m).request q := Table.get_set_self _ _ _
  exact ⟨Table.get_set_self _ _ _, by rw [hr, h1], by rw [hr, h2], rfl⟩

theorem Recorded.settle {m : StationNo} {q : RequestBody} {e : Entry} {s : State} (h : Recorded m q e s) (hm : m ≠ own s) :
    Recorded m q e (settle s) := by
  obtain ⟨h1, h2⟩ := (filed_requested m q.toggle q.force).settle ⟨h.toggle, h.force⟩
  exact ⟨(settle_entry s hm).trans h.entry, h1, h2, kept_statusPending.settle h.status⟩

theorem Recorded.answerNow {m : StationNo} {q : RequestBody} {e : Entry} {s : State} (h : Recorded m q e s) (x : Bool) :
    Recorded m q e (answerNow m x s) := by
  rcases answerNow_eq m x s with e | ⟨a, e⟩ <;> rw [e]
  · exact h
  · obtain ⟨h1, h2⟩ := (filed_requested m q.toggle q.force).placeReply ⟨h.toggle, h.force⟩ (y := x) a h.toggle
    exact ⟨h.entry, h1, h2, h.status⟩

theorem recorded_takeRequest {m : StationNo} {s : State} (q : RequestBody) (hm : m ≠ own s) :
    Recorded m q { entryOf s m with leaving := true } (takeRequest m q s) := by
  have h := recorded_requested m q s
  rcases takeRequest_eq m q s with e | e <;> rw [e]
  · exact h.settle hm
  · refine (h.answerNow q.toggle).settle ?_
    rcases answerNow_eq m q.toggle (requested m q s) with e | ⟨a, e⟩ <;> rw [e] <;> exact hm

section

variable {m : StationNo} {o : Origin} {b : List Byte} {s : State} (ho : o.val = m.val) (h : Hears o s)

include ho h

theorem exec_handoffRequest_fresh {q : RequestBody} (hq : readRequest b = some q) (hl : q.leaver = m) (hf : (entryOf s m).presence = .fresh) :
    exec (.handoffRequest o b) s = .next (takeRequest m q (withHeard s)) := by
  refine (congrArg Host.Outcome.next (receiveFrom_heard h _ _)).trans (congrArg Host.Outcome.next ?_)
  have hw : (entryOf (withHeard s) m).isFresh = true := decide_eq_true hf
  simp only [stationOf_eq ho, hq, if_pos hl, if_pos hw]

theorem exec_handoffRequest_stale {q : RequestBody} (hq : readRequest b = some q) (hl : q.leaver = m) (hf : (entryOf s m).presence ≠ .fresh) :
    exec (.handoffRequest o b) s = .next (withHeard s) := by
  refine (congrArg Host.Outcome.next (receiveFrom_heard h _ _)).trans (congrArg Host.Outcome.next ?_)
  have hw : ¬ (entryOf (withHeard s) m).isFresh = true := fun e => hf (of_decide_eq_true e)
  simp only [stationOf_eq ho, hq, if_pos hl, if_neg hw]

theorem exec_handoffRequest_none (hq : readRequest b = none) :
    exec (.handoffRequest o b) s = .next (countUnclaimed (withHeard s)) := by
  refine (congrArg Host.Outcome.next (receiveFrom_heard h _ _)).trans (congrArg Host.Outcome.next ?_)
  simp only [stationOf_eq ho, hq]

theorem exec_handoffRequest_ne {q : RequestBody} (hq : readRequest b = some q) (hl : q.leaver ≠ m) :
    exec (.handoffRequest o b) s = .next (countUnclaimed (withHeard s)) := by
  refine (congrArg Host.Outcome.next (receiveFrom_heard h _ _)).trans (congrArg Host.Outcome.next ?_)
  simp only [stationOf_eq ho, hq, if_neg hl]

/-! ### The CANCEL (R120) -/

theorem exec_handoffCancel {q : CancelBody} (hq : readCancel b = some q) (hl : q.leaver = m) :
    exec (.handoffCancel o b) s = .next (takeCancel m (withHeard s)) := by
  refine (congrArg Host.Outcome.next (receiveFrom_heard h _ _)).trans (congrArg Host.Outcome.next ?_)
  simp only [stationOf_eq ho, hq, if_pos hl]

theorem exec_handoffCancel_ne {q : CancelBody} (hq : readCancel b = some q) (hl : q.leaver ≠ m) :
    exec (.handoffCancel o b) s = .next (countUnclaimed (withHeard s)) := by
  refine (congrArg Host.Outcome.next (receiveFrom_heard h _ _)).trans (congrArg Host.Outcome.next ?_)
  simp only [stationOf_eq ho, hq, if_neg hl]

end

/-- A CANCEL taken, before the reports that follow. -/
def cancelled (m : StationNo) (s : State) : State :=
  let u := setEntry m { entryOf s m with leaving := false } { s with hoe := s.hoe.clearReplier m }
  { u with agenda := { u.agenda with exits := true, success := true } }

theorem settle_cancelled {m : StationNo} {s : State} (hm : m ≠ own s) :
    entryOf (settle (cancelled m s)) m = { entryOf s m with leaving := false }
      ∧ ((settle (cancelled m s)).hoe.repliers.get m).toggle = none
      ∧ ((settle (cancelled m s)).hoe.repliers.get m).answer = none := by
  have he : (cancelled m s).ptb.entries.get m = { entryOf s m with leaving := false } := Table.get_set_self _ _ _
  have hc : ((cancelled m s).hoe.repliers.get m).toggle = none ∧ ((cancelled m s).hoe.repliers.get m).answer = none := by
    simp [cancelled, setEntry, Hoe.clearReplier]
  exact ⟨(settle_entry (cancelled m s) hm).trans he, (filed_cleared m).settle hc⟩

/-- A frame that nobody takes changes the counts of LNK alone. -/
theorem countUnclaimed_withHeard (s : State) :
    countUnclaimed (withHeard s) = { s with lnk := { s.lnk.heard with unclaimed := satInc 65535 s.lnk.unclaimed } } := by
  rw [← (heard_keeps s.lnk).2.2.2.1]
  rfl

end Sys2Proof.Machine
end

section
/-! PROOFS. A leaver in an exchange that hears the REQUEST of another: it yields to a lower number, and a higher one leaves it
in its exchange (O46). -/

namespace Sys2Proof.Machine

set_option Elab.async false

/-! ### The REQUEST heard in LEAVING -/

/-- A leaver sends no REPLY (R116). -/
theorem takeRequest_leaving (m : StationNo) (q : RequestBody) {s : State} (hs : s.stc.state = .leaving) :
    takeRequest m q s = settle (requested m q s) := by
  rcases takeRequest_eq m q s with e | e
  · exact e
  · have hn : peerAnswer (requested m q s) = none := by
      have : (requested m q s).stc.state = .leaving := hs
      simp [peerAnswer, this]
    rw [e, answerNow, hn]

/-- The REQUEST recorded, with the yield it calls for taken off the agenda. -/
def unyielding (m : StationNo) (q : RequestBody) (s : State) : State :=
  { requested m q s with agenda := { (requested m q s).agenda with yields := [] } }

/-- The leaving mark of a peer is no alarm (R38). -/
theorem unacknowledgedAlarms_requested (m : StationNo) (q : RequestBody) (s : State) :
    unacknowledgedAlarms (unyielding m q s) = unacknowledgedAlarms s := by
  refine List.filter_congr fun n _ => ?_
  have h : (entryOf (unyielding m q s) n).showsAlarm = (entryOf s n).showsAlarm := by
    show ((s.ptb.entries.set m { entryOf s m with leaving := true }).get n).showsAlarm = _
    by_cases hn : n = m
    · subst hn
      rw [Table.get_set_self]
      rfl
    · rw [Table.get_set_of_ne _ _ hn]
      rfl
  rw [h]
  rfl

theorem undisturbed_unyielding {m : StationNo} {q : RequestBody} {s : State} (hc : Calm s) (ha : s.agenda = {}) :
    Undisturbed (unyielding m q (withHeard s)) := by
  obtain ⟨h1, h2, h3, h4, h5, -, h7, h8, h9⟩ := Undisturbed.of_calm hc ha
  exact ⟨h1, (unacknowledgedAlarms_requested m q (withHeard s)).trans h2, h3, h4, h5, fun _ => rfl, h7, h8, h9⟩

/-- The test whether to yield is the first report where none but yields come from outside the event. -/
theorem nextReport_yields {s : State} {m : StationNo} {rest : List StationNo} (h1 : s.agenda.ends = []) (h2 : s.agenda.rollaways = [])
    (h3 : s.agenda.peerAlarms = []) (h4 : s.agenda.abortEvent = false) (h5 : s.agenda.yields = m :: rest) :
    nextReport s = some (testYield m { s with agenda := { s.agenda with yields := rest } }) := by
  simp [nextReport, h1, h2, h3, h4, h5]

/-- The first report is the test whether to yield (R115). -/
theorem drain_requested {m : StationNo} {q : RequestBody} {s : State} (ha : s.agenda = {}) (n : Nat) :
    drain (n + 1) (requested m q (withHeard s)) = drain n (testYield m (sync (unyielding m q (withHeard s)))) := by
  have h1 : (sync (requested m q (withHeard s))).agenda.ends = [] := congrArg Agenda.ends ha
  have h2 : (sync (requested m q (withHeard s))).agenda.rollaways = [] := congrArg Agenda.rollaways ha
  have h3 : (sync (requested m q (withHeard s))).agenda.peerAlarms = [] := congrArg Agenda.peerAlarms ha
  have h4 : (sync (requested m q (withHeard s))).agenda.abortEvent = false := congrArg Agenda.abortEvent ha
  have h5 : (sync (requested m q (withHeard s))).agenda.yields = [m] := by
    show s.agenda.yields ++ [m] = [m]
    rw [ha]
    rfl
  rw [drain, nextReport_yields h1 h2 h3 h4 h5]
  rfl

/-! ### A hold that a leaver keeps waiting -/

/-- A station in its hold, which it leaves for nobody while a peer is leaving (R105). -/
structure Waiting (x : StationState) (s : State) : Prop where
  calm : Undisturbed s
  state : s.stc.state = x
  hold : (x = .holding ∧ securing s = false) ∨ x = .secured
  leaver : peerLeaving s = true
  timer : s.hoe.attemptTimer = none
  replies : s.hoe.replies = Table.fill none

theorem peerLeaving_of_steady {s t : State} (h : steady t = steady s) : peerLeaving t = peerLeaving s :=
  anyPeer_of_steady h _

section

variable {x : StationState} {s t : State} (h : Waiting x s)

include h

theorem Waiting.holds : s.stc.state = .holding ∨ s.stc.state = .secured := by
  rw [h.state]
  exact h.hold.imp_left And.left

theorem Waiting.ne {y : StationState} (h1 : y ≠ .holding) (h2 : y ≠ .secured) : s.stc.state ≠ y := by
  rintro rfl
  exact h.holds.elim h1 h2

theorem Waiting.no_hop : ¬ Hop s t := by
  have hu := h.calm
  have no (y : StationState) (h1 : y ≠ .holding) (h2 : y ≠ .secured) : s.stc.state ≠ y := h.ne h1 h2
  have hx : ¬ exchanging s = true := fun e => no _ (by simp) (by simp) ((exchanging_iff s).1 e).1
  intro r
  cases r with
  | goto y hm =>
    cases exitMove_goto hm with
    | fails hf _ => simp [hu.failure] at hf
    | startsStanding hs | startsFree hs | lifts hs | holds hs | resumes hs => exact no _ (by simp) (by simp) hs
    | serves hs | stands hs => exact hs.elim (no _ (by simp) (by simp)) (no _ (by simp) (by simp))
    | secures hs hc =>
      have hs := hs.resolve_left (no _ (by simp) (by simp))
      rcases h.hold with ⟨-, hn⟩ | e
      · simp [hn] at hc
      · rw [h.state, e] at hs
        cases hs
  | peerShows n hm => exact exitMove_peerAlarm hm hu.alarms
  | peerAlarm n rest hp _ => simp [hu.peerAlarms] at hp
  | rollaway c rest hp _ => simp [hu.rollaways] at hp
  | exchange hm =>
    have := (exitMove_exchange hm).2
    simp [exchangeReady, h.leaver] at this
  | withdraw hm => exact hx (exitMove_withdraw hm).1
  | yield m rest _ hy => exact hx hy
  | unparked e rest he ho _ => simp [hu.ends e (by rw [he]; exact List.mem_cons_self)] at ho
  | rampOver hs _ _ | released hs _ _ | reheldAtOnce hs _ _ _ => exact no _ (by simp) (by simp) hs
  | reheld ha _ => simp [hu.abortEvent] at ha
  | aborted _ hr _ | abortedByPeer _ hr => exact no _ (by simp) (by simp) ((releaseInProgress_iff s).1 hr).1

theorem Waiting.nearly (q : Nearly s t) : Waiting x t where
  calm := h.calm.nearly q
  state := (state_of_standing q.standing).trans h.state
  hold := h.hold.imp_left fun ⟨e, hc⟩ => ⟨e, (securing_of_steady q.steady).trans hc⟩
  leaver := (peerLeaving_of_steady q.steady).trans h.leaver
  timer := (congrArg (fun x => x.hoe.attemptTimer) q.standing).trans h.timer
  replies := (congrArg (fun x => x.hoe.replies) q.standing).trans h.replies

theorem Waiting.followLift : followLift s = s :=
  followLift_of_state (h.ne (by simp) (by simp)) (h.ne (by simp) (by simp))

theorem Waiting.no_move : exitMove s = none := by
  cases hm : exitMove s with
  | none => rfl
  | some m => exact absurd (hop_applyMove hm) h.no_hop

theorem Waiting.afterMove : afterMove s = outputs s := by
  have hc : chain chainLimit s = s := by
    show chain (9 + 1) s = s
    rw [chain, h.followLift, h.no_move]
  rw [Machine.afterMove, hc]

theorem Waiting.minor (m : Minor s t) : Waiting x t := by
  have hu := h.calm.minor m
  have hst := state_minor m
  have hsteady := steady_minor m
  have hx : ¬ exchanging s = true := fun e => h.ne (by simp) (by simp) ((exchanging_iff s).1 e).1
  have hhoe : t.hoe.attemptTimer = none ∧ t.hoe.replies = Table.fill none := by
    have h1 := h.timer
    have h2 := h.replies
    cases m with
    | deferAsk => unfold deferAsk; split <;> exact ⟨h1, h2⟩
    | testUnpark => unfold testUnpark; dsimp only; (repeat' split) <;> exact ⟨h1, h2⟩
    | succeed he _ => exact absurd he hx
    | _ => exact ⟨h1, h2⟩
  exact ⟨hu, hst.trans h.state, h.hold.imp_left fun ⟨e, hc⟩ => ⟨e, (securing_of_steady hsteady).trans hc⟩,
    (peerLeaving_of_steady hsteady).trans h.leaver, hhoe.1, hhoe.2⟩

end

/-- A waiting hold whose phase is that of an ask put off, or of none (R105). -/
structure PutOff (x : StationState) (s : State) : Prop extends Waiting x s where
  phase : s.hoe.phase = if handoffReason s then .deferred else .idle

/-- In a hold, the tests of the exits end a deferral that nothing asks for any more (R105). -/
theorem phase_tendHandoff {s : State} (hs : s.stc.state = .holding ∨ s.stc.state = .secured) :
    (tendHandoff s).hoe.phase = if s.hoe.phase = .deferred ∧ handoffReason s = false then .idle else s.hoe.phase := by
  rcases hs with hs | hs <;> cases hr : handoffReason s <;> simp [tendHandoff, hs, hr]

theorem hoe_testUnpark (s : State) : (testUnpark s).hoe = s.hoe := by
  unfold testUnpark
  dsimp only
  (repeat' split) <;> rfl

theorem Waiting.tendHandoff {x : StationState} {s : State} (h : Waiting x s) (hp : s.hoe.phase = .deferred) :
    PutOff x (tendHandoff s) := by
  refine ⟨h.minor .tendHandoff, ?_⟩
  rw [handoffReason_of_steady (steady_tendHandoff s), phase_tendHandoff h.holds, hp]
  cases handoffReason s <;> rfl

theorem PutOff.minor {x : StationState} {s t : State} (h : PutOff x s) (m : Minor s t) : PutOff x t := by
  have hx : ¬ exchanging s = true := fun e => h.ne (by simp) (by simp) ((exchanging_iff s).1 e).1
  have hp := h.phase
  refine ⟨h.toWaiting.minor m, ?_⟩
  rw [handoffReason_of_steady (steady_minor m)]
  cases m with
  | tendHandoff =>
    rw [phase_tendHandoff h.holds, hp]
    cases handoffReason s <;> rfl
  | deferAsk =>
    unfold deferAsk
    split
    · rename_i hc
      simp only [Bool.and_eq_true] at hc
      rw [hc.1.1.1.2]
      rfl
    · exact hp
  | testUnpark => rw [hoe_testUnpark]; exact hp
  | succeed he _ => exact absurd he hx
  | _ => exact hp

/-- No act takes it out of the hold, or touches the park valve and the join. -/
theorem PutOff.act {x : StationState} {s t : State} (h : PutOff x s) (a : Act s t) :
    PutOff x t ∧ t.mod.outfit = s.mod.outfit := by
  cases a with
  | quiet q =>
    refine ⟨⟨h.toWaiting.nearly q.toNearly, ?_⟩, q.outfit⟩
    rw [handoffReason_of_steady q.steady, ← h.phase]
    exact congrArg (fun x => x.hoe.phase) q.standing
  | followLift => rw [h.followLift]; exact ⟨h, rfl⟩
  | minor m _ => exact ⟨h.minor m, by rw [(minor_fit m).2.1]⟩
  | ventService hs => exact absurd hs (h.ne (by simp) (by simp))
  | turn _ hs _ => exact absurd hs (h.ne (by simp) (by simp))
  | succeed he _ => exact absurd ((exchanging_iff s).1 he).1 (h.ne (by simp) (by simp))
  | moved r _ => exact absurd r h.no_hop

theorem PutOff.run {x : StationState} {s t : State} (h : PutOff x s) (r : Acts s t) :
    PutOff x t ∧ t.mod.outfit = s.mod.outfit := by
  induction r with
  | refl => exact ⟨h, rfl⟩
  | tail _ a ih =>
    obtain ⟨h1, h2⟩ := ih
    obtain ⟨k1, k2⟩ := h1.act a
    exact ⟨k1, k2.trans h2⟩

theorem testService_of_ne {s : State} (h : s.stc.state ≠ .service) : testService s = s := if_neg (by simp [h])

/-- A test of its exits finds none. -/
theorem Waiting.testExits {x : StationState} {s : State} (h : Waiting x s) (hp : s.hoe.phase = .deferred) :
    PutOff x (testExits s) ∧ (testExits s).mod = s.mod := by
  have h1 := h.tendHandoff hp
  have h2 := h1.minor .deferAsk
  have h3 := h2.minor .testUnpark
  rw [testExits_none h.followLift h1.no_move, testService_of_ne (h3.ne (by simp) (by simp))]
  exact ⟨h3, (minor_fit .testUnpark).2.1.trans (minor_fit .deferAsk).2.1⟩

/-! ### The yield to a lower number (R115) -/

/-- A leaver without a limit mark returns to its origin state alone. -/
theorem returnToOrigin_of_unmarked {s : State} (h : s.stc.limitMark = false) :
    returnToOrigin s = enterState (s.stc.origin.getD .holding).toState s := by
  simp [returnToOrigin, h]

/-- The join that stands already is kept with all that is under way (R74). -/
theorem joinTo_same {j : Join} {s : State} (h : j = s.mod.join) : joinTo j s = s := by
  have hm : s.mod.joinTo j = { mod := s.mod } := if_pos h
  unfold joinTo
  rw [hm, takeModResult_superseded _ _ (by simp), if_pos h]
  simp

/-- A join that stands already is no report, and the outputs then call for nothing but a computation. -/
theorem agenda_outputs {s : State} (hs : s.stc.state ≠ .alarm) (hj : joinOf s.hoe.phase s.stc.state = s.mod.join) :
    ∃ b, (outputs s).agenda = { s.agenda with plan := b } := by
  have hp : ∃ b, (parkForState s).agenda = { s.agenda with plan := b } ∧ (parkForState s).mod.join = s.mod.join
      ∧ (parkForState s).stc = s.stc ∧ (parkForState s).hoe = s.hoe := by
    unfold parkForState
    split
    · refine ⟨_, rfl, ?_, rfl, rfl⟩
      show (s.mod.orderPark _ _ _).join = _
      unfold Mod.orderPark Mod.energisePark Mod.deEnergisePark
      (repeat' split) <;> rfl
    · exact ⟨s.agenda.plan, rfl, rfl, rfl, rfl⟩
  obtain ⟨b, h1, h2, h3, h4⟩ := hp
  have hjoin : joinForState (parkForState s) = parkForState s := joinTo_same (by rw [h3, h4, h2, hj])
  have ho : outputs s = parkForState s := by
    unfold outputs
    dsimp only
    rw [hjoin, h3, if_neg hs]
  rw [ho]
  exact ⟨b, h1⟩

/-- The origin state of a leaver. -/
def originState (s : State) : StationState := (s.stc.origin.getD .holding).toState

theorem originState_eq (s : State) : originState s = match s.stc.origin with | some .secured => .secured | _ => .holding := by
  unfold originState
  rcases s.stc.origin with _ | _ | _ <;> rfl

theorem originState_hold (s : State) : originState s = .holding ∨ originState s = .secured := by
  unfold originState
  rcases s.stc.origin with _ | _ | _ <;> simp [HoldState.toState]

/-- The state a yielding leaver is left in: its origin state, the exchange given up and the replies cleared. -/
theorem waiting_yieldExchange {s : State} (hu : Undisturbed s) (hs : s.stc.state = .leaving) (hl : s.stc.limitMark = false)
    (hc : securing s = false) (hp : peerLeaving s = true) :
    Waiting (originState s) (yieldExchange s) ∧ (yieldExchange s).hoe.phase = .deferred
      ∧ (yieldExchange s).agenda.exits = true ∧ (yieldExchange s).agenda.yields = [] := by
  have hy := hu.yields hs
  obtain ⟨h1, h2, h3, h4, h5, h6, h7, h8, h9⟩ := hu
  have hz : Undisturbed (placeHandoff (.cancel s.hoe.toggle)
      { s with hoe := { s.hoe with replies := Table.fill none }.endExchange .deferred }) :=
    ⟨h1, h2, h3, h4, h5, h6, h7, h8, h9⟩
  have e : yieldExchange s = enterState (originState s) (placeHandoff (.cancel s.hoe.toggle)
      { s with hoe := { s.hoe with replies := Table.fill none }.endExchange .deferred }) :=
    returnToOrigin_of_unmarked hl
  have ho := originState_hold s
  generalize originState s = x at e ho
  have hst : steady (yieldExchange s) = steady s := steady_yieldExchange s
  have hhoe : (yieldExchange s).hoe = { s.hoe with replies := Table.fill none }.endExchange .deferred := by
    rw [e]
    rcases ho with rfl | rfl <;> rfl
  refine ⟨⟨?_, by rw [e]; rfl, ?_, (peerLeaving_of_steady hst).trans hp, by rw [hhoe]; rfl, by rw [hhoe]; rfl⟩,
    by rw [hhoe]; rfl, by rw [e]; rfl, by rw [e]; exact hy⟩
  · rw [e]
    exact hz.enterState x (fun hx => by rcases ho with rfl | rfl <;> cases hx)
  · exact ho.imp_left fun hx => ⟨hx, (securing_of_steady hst).trans hc⟩

/-- Bringing the derived values up to date leaves STC, HOE, MOD, LNK and the ends and yields on the agenda. -/
theorem sync_keeps (u : State) : (sync u).stc = u.stc ∧ (sync u).hoe = u.hoe ∧ (sync u).mod = u.mod ∧ (sync u).lnk = u.lnk
    ∧ (sync u).agenda.ends = u.agenda.ends ∧ (sync u).agenda.yields = u.agenda.yields := ⟨rfl, rfl, rfl, rfl, rfl, rfl⟩

/-- What a yield leaves at the end of the event. -/
structure Yielded (s t : State) : Prop where
  putOff : PutOff (originState s) t
  parkCmd : t.mod.parkCmd = decide (s.stc.origin ≠ some .secured)
  join : t.mod.join = .planner

theorem parkOf_originState (s : State) (o : Option HoldState) :
    parkOf o (originState s) = some (decide (s.stc.origin ≠ some .secured)) := by
  unfold originState
  rcases s.stc.origin with _ | _ | _ <;> rfl

/-- A leaver that yields is in its origin state, and a test of its exits follows that finds none (R3, R115). -/
theorem yielded_drain {s : State} (hu : Undisturbed s) (hs : s.stc.state = .leaving) (hl : s.stc.limitMark = false)
    (hc : securing s = false) (hp : peerLeaving s = true) (hj : s.mod.join = .planner) (he : s.agenda.ends = []) (n : Nat) :
    Yielded s (levels (drain (n + 1) (afterMove (yieldExchange s)))) := by
  obtain ⟨hw, hd, hx, hy⟩ := waiting_yieldExchange hu hs hl hc hp
  have hm : (yieldExchange s).mod = s.mod := congrArg Scenery.mod (scenery_returnToOrigin _)
  have hends : (yieldExchange s).agenda.ends = [] := (congrArg Scenery.ends (scenery_returnToOrigin _)).trans he
  rw [hw.afterMove]
  generalize hv : yieldExchange s = v at hw hd hx hy hm hends
  have hjoin : joinOf v.hoe.phase v.stc.state = .planner := by
    rcases hw.holds with h | h <;> rw [h] <;> rfl
  obtain ⟨b, ha⟩ := agenda_outputs (hw.ne (by simp) (by simp)) (hjoin.trans (hj.symm.trans (congrArg Mod.join hm).symm))
  have q := nearly_outputs v
  have ho := hw.nearly q
  have hz := ho.nearly (quietly_atExits (outputs v)).toNearly
  have hpz : (atExits (outputs v)).hoe.phase = .deferred := (congrArg (fun x => x.hoe.phase) q.standing).trans hd
  obtain ⟨k1, k2⟩ := hz.testExits hpz
  have hr : nextReport (sync (outputs v)) = some (testExits (atExits (outputs v))) := by
    have hs := (ho.nearly (quietly_sync _).toNearly).calm
    obtain ⟨-, -, -, -, e1, e2⟩ := sync_keeps (outputs v)
    refine nextReport_exits ?_ hs.rollaways hs.peerAlarms hs.abortEvent ?_ ?_
    · rw [e1, ha]
      exact hends
    · rw [e2, ha]
      exact hy
    · show ((outputs v).agenda.exits || _) = true
      rw [ha, hx, Bool.true_or]
  rw [drain, hr]
  obtain ⟨r1, r2⟩ := k1.run ((drain_acts n _).trans (acts_quiet (quietly_levels _)))
  have hout : (levels (drain n (testExits (atExits (outputs v))))).mod.outfit = (outputs v).mod.outfit :=
    r2.trans ((congrArg Mod.outfit k2).trans (quietly_atExits (outputs v)).outfit)
  refine ⟨r1, (congrArg Outfit.parkCmd hout).trans (outputs_parkCmd ?_), (congrArg Outfit.join hout).trans ?_⟩
  · rw [hw.state]
    exact parkOf_originState s _
  · exact (outputs_join v).trans hjoin

/-! ### A leaver that nothing turns back -/

/-- A leaver whose reason stands, in its exchange or just come to its success, with the toggle `x`. -/
structure Leaves (x : Bool) (s : State) : Prop where
  calm : Undisturbed s
  state : s.stc.state = .leaving
  phase : s.hoe.phase = .exchange ∨ (s.hoe.phase = .ramp ∧ s.hoe.rampSteps = 0)
  reason : leaveReasonCeased s = false
  toggle : s.hoe.toggle = x

section

variable {x : Bool} {s t : State} (h : Leaves x s)

include h

theorem Leaves.ne {y : StationState} (hy : y ≠ .leaving) : s.stc.state ≠ y := by
  rw [h.state]
  exact hy.symm

theorem Leaves.no_rampEnd : s.hoe.phase = .ramp → rampEnded s.hoe.rampSteps s = false := by
  intro hp
  rcases h.phase with e | ⟨-, e⟩
  · simp [hp] at e
  · simp [rampEnded, e]

theorem Leaves.no_hop : ¬ Hop s t := by
  have hu := h.calm
  have no (y : StationState) (hy : y ≠ .leaving) : s.stc.state ≠ y := h.ne hy
  intro r
  cases r with
  | goto y hm =>
    cases exitMove_goto hm with
    | fails hf _ => simp [hu.failure] at hf
    | startsStanding hs | startsFree hs | lifts hs | holds hs | resumes hs => exact no _ (by simp) hs
    | serves hs | stands hs | secures hs => exact hs.elim (no _ (by simp)) (no _ (by simp))
  | peerShows n hm => exact exitMove_peerAlarm hm hu.alarms
  | peerAlarm n rest hp _ => simp [hu.peerAlarms] at hp
  | rollaway c rest hp _ => simp [hu.rollaways] at hp
  | exchange hm => exact (exitMove_exchange hm).1.elim (no _ (by simp)) (no _ (by simp))
  | withdraw hm =>
    have := (exitMove_withdraw hm).2
    simp [h.reason] at this
  | yield m rest hm _ => simp [hu.yields h.state] at hm
  | unparked _ _ _ _ hs | released hs _ _ | reheldAtOnce hs _ _ _ => exact no _ (by simp) hs
  | rampOver _ hp he => simp [h.no_rampEnd hp] at he
  | reheld ha _ => simp [hu.abortEvent] at ha
  | aborted _ hr _ | abortedByPeer _ hr => exact no _ (by simp) ((releaseInProgress_iff s).1 hr).1

theorem Leaves.nearly (q : Nearly s t) : Leaves x t where
  calm := h.calm.nearly q
  state := (state_of_standing q.standing).trans h.state
  phase := by
    rw [show t.hoe.phase = s.hoe.phase from congrArg (fun x => x.hoe.phase) q.standing,
      show t.hoe.rampSteps = s.hoe.rampSteps from congrArg (fun x => x.hoe.rampSteps) q.standing]
    exact h.phase
  reason := (leaveReasonCeased_of_views q.steady (congrArg (fun x => x.stc.leaveReason) q.standing)).trans h.reason
  toggle := (congrArg (fun x => x.hoe.toggle) q.standing).trans h.toggle

theorem Leaves.minor (m : Minor s t) : Leaves x t := by
  have hu := h.calm.minor m
  have hst := (state_minor m).trans h.state
  have hc : t.stc.leaveReason = s.stc.leaveReason := by
    cases m with
    | deferAsk => unfold deferAsk; split <;> rfl
    | testUnpark => unfold testUnpark; dsimp only; (repeat' split) <;> rfl
    | _ => rfl
  have hp : (t.hoe.phase = .exchange ∨ (t.hoe.phase = .ramp ∧ t.hoe.rampSteps = 0)) ∧ t.hoe.toggle = x := by
    have hp := h.phase
    have ht := h.toggle
    cases m with
    | tendHandoff =>
      have e : (tendHandoff s).hoe.phase = s.hoe.phase := by
        rcases hp with e | ⟨e, -⟩ <;> simp [tendHandoff, e]
      rw [e]
      exact ⟨hp, ht⟩
    | deferAsk => rw [deferAsk, if_neg (by simp [h.state])]; exact ⟨hp, ht⟩
    | testUnpark => rw [hoe_testUnpark]; exact ⟨hp, ht⟩
    | countRampStep e he =>
      have he : countRampStep e s = s := by simp [countRampStep, StepEnd.profileEnd, h.calm.ends e he]
      rw [he]
      exact ⟨hp, ht⟩
    | succeed _ _ => exact ⟨.inr ⟨rfl, rfl⟩, ht⟩
    | _ => exact ⟨hp, ht⟩
  exact ⟨hu, hst, hp.1, (leaveReasonCeased_of_views (steady_minor m) hc).trans h.reason, hp.2⟩

theorem Leaves.no_move : exitMove s = none := by
  cases hm : exitMove s with
  | none => rfl
  | some m => exact absurd (hop_applyMove hm) h.no_hop

/-- A test of its exits finds none, and places no notice. -/
theorem Leaves.handoffSlot_testExits : (testExits s).lnk.handoffSlot = s.lnk.handoffSlot := by
  have hd : deferAsk (tendHandoff s) = tendHandoff s := if_neg (by simp [tendHandoff, h.state])
  have hs : (testUnpark (tendHandoff s)).stc.state ≠ .service :=
    ((h.minor .tendHandoff).minor .testUnpark).ne (by simp)
  rw [testExits_none (followLift_of_state (h.ne (by simp)) (h.ne (by simp))) (h.minor .tendHandoff).no_move, hd,
    testService_of_ne hs, testUnpark, if_neg ((h.minor .tendHandoff).ne (by simp))]
  rfl

omit h in
/-- A success joins RELEASE and appends its profile; it places no notice (R110). -/
theorem handoffSlot_testSuccess (s : State) : (testSuccess s).lnk.handoffSlot = s.lnk.handoffSlot := by
  have result (r : ModResult) (u : State) : (takeModResult r u).lnk = u.lnk := by
    unfold takeModResult
    dsimp only
    (repeat' split) <;> rfl
  unfold testSuccess
  split
  · exact congrArg Lnk.handoffSlot ((result _ _).trans (result _ _))
  · rfl

/-- A leaver forms no answer (R116). -/
theorem Leaves.reformAnswers : reformAnswers s = s := by
  have hn : peerAnswer s = none := by simp [peerAnswer, h.state]
  have one (n : StationNo) : reformAnswer s n = s := by
    unfold reformAnswer
    rw [hn]
    split
    · rename_i e
      cases e
    · rfl
  have all (l : List StationNo) : l.foldl reformAnswer s = s := by
    induction l with
    | nil => rfl
    | cons n l ih => rw [List.foldl_cons, one, ih]
  exact all _

omit h in
/-- The end of a superseded step is only called for (R85). -/
theorem noteEnd_superseded {e : StepEnd} (he : e.outcome = .superseded) (s : State) :
    (noteEnd e s).lnk = s.lnk ∧ (noteEnd e s).stc = s.stc := by
  unfold noteEnd
  rw [limitedByEnd_superseded he]
  exact ⟨rfl, rfl⟩

/-- No report places a notice in the HANDOFF slot. -/
theorem Leaves.handoffSlot_report (r : Report s t) : t.lnk.handoffSlot = s.lnk.handoffSlot := by
  have hu := h.calm
  have pop (a : Agenda) (hc : CallsNoMore s { s with agenda := a }) : Leaves x { s with agenda := a } :=
    h.nearly (quietly_agenda s a hc).toNearly
  cases r with
  | stepEnd e rest he =>
    have ho := hu.ends e (by rw [he]; exact List.mem_cons_self)
    obtain ⟨h1, h2⟩ := noteEnd_superseded ho { s with agenda := { s.agenda with ends := rest } }
    have hs : ¬ (noteEnd e { s with agenda := { s.agenda with ends := rest } }).stc.state = .secured := by
      rw [h2]
      exact h.ne (by simp)
    rw [takeEnd_eq, takeUnparkEnd, if_neg (by simp [hs]), h1]
  | rollaway r rest hr => simp [hu.rollaways] at hr
  | peerAlarm n rest hn => simp [hu.peerAlarms] at hn
  | abortEvent ha => simp [hu.abortEvent] at ha
  | yield m rest hm => simp [hu.yields h.state] at hm
  | exits _ => exact (pop { s.agenda with exits := false } (.of_agenda rfl rfl rfl rfl rfl rfl)).handoffSlot_testExits
  | plan _ =>
    have hp := pop { s.agenda with plan := false, force := false } (.of_agenda rfl rfl rfl rfl rfl rfl)
    obtain ⟨z, p, c, e⟩ := planEvent_form s.agenda.force hp.calm (.inr hp.state)
    rw [e]
  | abortTest _ =>
    have hr : releaseInProgress { s with agenda := { s.agenda with abortTest := false } } = false := by
      simp [releaseInProgress, h.state]
    rw [testAbort, if_neg (by simp [hr])]
  | turn _ => rw [testTurn, if_neg (by simp [h.state])]
  | ramp _ =>
    have hp : ¬ (s.hoe.phase = .ramp ∧ rampEnded s.hoe.rampSteps s = true) := fun ⟨h1, h2⟩ => by
      simp [h.no_rampEnd h1] at h2
    have he : rampEnded s.hoe.rampSteps { s with agenda := { s.agenda with ramp := false } } = rampEnded s.hoe.rampSteps s := rfl
    rw [testRamp, if_neg (by simpa [h.state, he] using hp), if_neg (by simp [h.state])]
  | success _ => exact handoffSlot_testSuccess _
  | answers _ => rw [(pop { s.agenda with answers := false } (.of_agenda rfl rfl rfl rfl rfl rfl)).reformAnswers]

end

theorem kept_leaves (x : Bool) : Kept (Leaves x) where
  nearly := fun _ _ h q => h.nearly q
  followLift := fun s h => by rw [followLift_of_state (h.ne (by simp)) (h.ne (by simp))]; exact h
  hop := fun _ _ h r => absurd r h.no_hop
  minor := fun _ _ h m => h.minor m

theorem Leaves.drain {x : Bool} {s : State} (h : Leaves x s) (n : Nat) :
    Leaves x (levels (drain n s)) ∧ (levels (drain n s)).lnk.handoffSlot = s.lnk.handoffSlot := by
  have k : Leaves x (Machine.drain n s) ∧ (Machine.drain n s).lnk.handoffSlot = s.lnk.handoffSlot :=
    drain_induction (P := fun t => Leaves x t ∧ t.lnk.handoffSlot = s.lnk.handoffSlot)
      (fun t ⟨h1, h2⟩ => ⟨h1.nearly (quietly_sync t).toNearly, h2⟩)
      (fun t u ⟨h1, h2⟩ r => ⟨(kept_leaves x).run h1 (report_acts r), (h1.handoffSlot_report r).trans h2⟩) n ⟨h, rfl⟩
  exact ⟨k.1.nearly (quietly_levels _).toNearly, k.2⟩

/-! ### The REQUEST of another leaver in an exchange (R115) -/

section

variable {m : StationNo} {q : RequestBody} {s : State}

/-- The station that asked counts as leaving (R105). -/
theorem peerLeaving_requested (hm : m ≠ own s) (hf : (entryOf s m).presence = .fresh) :
    peerLeaving (unyielding m q (withHeard s)) = true := by
  have he : (unyielding m q (withHeard s)).ptb.entries.get m = { entryOf s m with leaving := true } := Table.get_set_self _ _ _
  refine List.any_eq_true.2 ⟨m, mem_allStations m, ?_⟩
  have hm' : m ≠ own (unyielding m q (withHeard s)) := hm
  rw [he, Bool.and_eq_true, decide_eq_true_eq]
  exact ⟨hm', by simp [Entry.countedLeaving, Entry.isFresh, hf]⟩

/-- `v` is `s` at its test whether to yield to a station that asked. -/
structure AtYield (s v : State) : Prop where
  calm : Undisturbed v
  stc : v.stc = s.stc
  phase : v.hoe.phase = s.hoe.phase
  toggle : v.hoe.toggle = s.hoe.toggle
  mod : v.mod = s.mod
  ends : v.agenda.ends = []
  slot : v.lnk.handoffSlot = s.lnk.handoffSlot
  own : own v = own s
  securing : securing v = securing s
  reason : leaveReasonCeased v = leaveReasonCeased s
  leaver : peerLeaving v = true

theorem unyielding_keeps (m : StationNo) (q : RequestBody) (s : State) :
    (unyielding m q (withHeard s)).stc = s.stc ∧ (unyielding m q (withHeard s)).hoe.phase = s.hoe.phase
      ∧ (unyielding m q (withHeard s)).hoe.toggle = s.hoe.toggle ∧ (unyielding m q (withHeard s)).mod = s.mod
      ∧ (unyielding m q (withHeard s)).lnk.handoffSlot = s.lnk.handoffSlot
      ∧ (unyielding m q (withHeard s)).agenda.ends = s.agenda.ends :=
  ⟨rfl, rfl, rfl, rfl, (heard_keeps s.lnk).2.1, rfl⟩

theorem atYield_requested (q : RequestBody) (h : Settled s) (hc : Calm s) (hm : m ≠ own s) (hf : (entryOf s m).presence = .fresh) :
    AtYield s (sync (unyielding m q (withHeard s))) := by
  have hu : Undisturbed (unyielding m q (withHeard s)) := undisturbed_unyielding hc h.1
  have hr : leaveReasonCeased (unyielding m q (withHeard s)) = leaveReasonCeased s := rfl
  have hsec : Machine.securing (unyielding m q (withHeard s)) = Machine.securing s := rfl
  have ho : Machine.own (unyielding m q (withHeard s)) = Machine.own s := rfl
  have hp := peerLeaving_requested (q := q) hm hf
  obtain ⟨u1, u2, u3, u4, u5, u6⟩ := unyielding_keeps m q s
  generalize unyielding m q (withHeard s) = u at hu hr hsec ho hp u1 u2 u3 u4 u5 u6 ⊢
  obtain ⟨k1, k2, k3, k4, k5, -⟩ := sync_keeps u
  have qs := quietly_sync u
  exact
    { calm := hu.nearly qs.toNearly
      stc := k1.trans u1
      phase := by rw [k2, u2]
      toggle := by rw [k2, u3]
      mod := k3.trans u4
      ends := by rw [k5, u6, h.1]
      slot := by rw [k4, u5]
      own := (own_of_steady qs.steady).trans ho
      securing := (securing_of_steady qs.steady).trans hsec
      reason := (leaveReasonCeased_of_views qs.steady (congrArg Stc.leaveReason k1)).trans hr
      leaver := (peerLeaving_of_steady qs.steady).trans hp }

/-- The event of the REQUEST goes through that test. -/
theorem settle_requested (q : RequestBody) (h : Settled s) (hc : Calm s) (hm : m ≠ own s) (hf : (entryOf s m).presence = .fresh) :
    ∃ v, AtYield s v ∧ settle (requested m q (withHeard s)) = levels (Machine.drain 63 (testYield m v)) := by
  refine ⟨_, atYield_requested q h hc hm hf, ?_⟩
  rw [settle, reportLimit, drain_requested h.1]

theorem yields_to_lower (h : Settled s) (hc : Calm s) (hs : s.stc.state = .leaving) (hp : s.hoe.phase = .exchange)
    (hj : s.mod.join = .planner) (hf : (entryOf s m).presence = .fresh) (hm : m.val < (own s).val)
    (hl : s.stc.limitMark = false) (hsec : securing s = false) :
    Yielded s (settle (requested m q (withHeard s))) := by
  have hn : m ≠ own s := fun e => by rw [e] at hm; exact absurd hm (Nat.lt_irrefl _)
  obtain ⟨v, k, e⟩ := settle_requested q h hc hn hf
  have hst : v.stc.state = .leaving := by rw [k.stc]; exact hs
  have hx : exchanging v = true := (exchanging_iff _).2 ⟨hst, k.phase.trans hp⟩
  have hy : testYield m v = afterMove (yieldExchange v) :=
    if_pos (Bool.and_eq_true_iff.2 ⟨hx, decide_eq_true (by rw [k.own]; exact hm)⟩)
  have ho : originState v = originState s := by rw [originState, k.stc, originState]
  obtain ⟨h1, h2, h3⟩ := yielded_drain k.calm hst (by rw [k.stc]; exact hl) (k.securing.trans hsec) k.leaver
    (by rw [k.mod]; exact hj) k.ends 62
  rw [e, hy]
  exact ⟨ho ▸ h1, by rw [h2, k.stc], h3⟩

theorem stays_for_higher (h : Settled s) (hc : Calm s) (hs : s.stc.state = .leaving) (hp : s.hoe.phase = .exchange)
    (hf : (entryOf s m).presence = .fresh) (hm : (own s).val < m.val) (hr : leaveReasonCeased s = false) :
    Leaves s.hoe.toggle (settle (requested m q (withHeard s)))
      ∧ (settle (requested m q (withHeard s))).lnk.handoffSlot = s.lnk.handoffSlot := by
  have hn : m ≠ own s := fun e => by rw [e] at hm; exact absurd hm (Nat.lt_irrefl _)
  obtain ⟨v, k, e⟩ := settle_requested q h hc hn hf
  have hl : Leaves s.hoe.toggle v :=
    ⟨k.calm, by rw [k.stc]; exact hs, .inl (k.phase.trans hp), k.reason.trans hr, k.toggle⟩
  have hy : testYield m v = v := by
    refine if_neg fun e => ?_
    have e := of_decide_eq_true (Bool.and_eq_true_iff.1 e).2
    rw [k.own] at e
    exact absurd (Nat.lt_trans hm e) (Nat.lt_irrefl _)
  obtain ⟨h1, h2⟩ := hl.drain 63
  rw [e, hy]
  exact ⟨h1, h2.trans k.slot⟩

end

/-- Settles O46: the mark and the record stand before the reports and no report takes them back; the first report is the test
whether to yield, and the tests that follow find no exit while the other station is leaving. -/
theorem leaverIsMarked : Obligations.LeaverIsMarked := by
  intro m o b s ho h
  have hm : m ≠ own s := h.ne ho
  refine ⟨fun q hq hl hf => ?_, fun q hq hl hf => ⟨_, exec_handoffRequest_stale ho h hq hl hf, rfl⟩, fun hq => ?_,
    fun q hq hl => ?_, fun q hq hl => ?_, fun q hq hl => ?_, fun q hq hl hf hs hc hst hp hj => ⟨fun hlt hlm hsec => ?_, fun hlt hr => ?_⟩⟩
  · obtain ⟨h1, h2, h3, h4⟩ := recorded_takeRequest (s := withHeard s) q hm
    exact ⟨_, exec_handoffRequest_fresh ho h hq hl hf, h1, h2, h3, h4⟩
  · exact ⟨_, exec_handoffRequest_none ho h hq, rfl, rfl, unclaimed_heard s⟩
  · exact ⟨_, exec_handoffCancel ho h hq hl, settle_cancelled (s := withHeard s) hm⟩
  · rw [exec_handoffRequest_ne ho h hq hl, countUnclaimed_withHeard]
  · rw [exec_handoffCancel_ne ho h hq hl, countUnclaimed_withHeard]
  · obtain ⟨h1, h2, h3⟩ := yields_to_lower (q := q) hs hc hst hp hj hf hlt hlm hsec
    have hr : handoffReason (settle (requested m q (withHeard s))) = handoffReason (requested m q (withHeard s)) :=
      handoffReason_of_steady (steady_settle _)
    refine ⟨_, (exec_handoffRequest_fresh ho h hq hl hf).trans (congrArg Host.Outcome.next (takeRequest_leaving m q hst)),
      h1.state.trans (originState_eq s), h2, h3, h1.timer, h1.replies, h1.phase.trans (by rw [hr]; rfl), ?_⟩
    exact (kept_flag_eq (f := .handoffFailed) rfl (by simp) _).settle (s := requested m q (withHeard s)) rfl
  · obtain ⟨h1, h2⟩ := stays_for_higher (q := q) hs hc hst hp hf hlt hr
    exact ⟨_, (exec_handoffRequest_fresh ho h hq hl hf).trans (congrArg Host.Outcome.next (takeRequest_leaving m q hst)),
      h1.state, h1.toggle, h2⟩

end Sys2Proof.Machine
end

section
/-! PROOFS. The plan record and the parameters behind it (O11): what a computation, a step of MOD and every report of an event keep
of their ranges. -/

namespace Sys2Proof.Machine

set_option Elab.async false

/-! ### The ranges, part by part -/

/-- The ranges of the plan record (R54 to R59, R63). -/
def Plan.InRange (p : Plan) : Prop :=
  64 ≤ p.k ∧ p.k ≤ 160 ∧ p.fReq = requiredForce p.m p.ge p.k ∧ p.share ≤ p.c ∧ p.c ≤ p.l ∧ p.a ≤ p.l ∧ p.pTop ≤ 1000

/-- The steps MOD holds, pending or in flight. -/
def Mod.held (m : Mod) : List Step := m.queue ++ (m.inFlight.map InFlight.step).toList

/-- No step MOD holds has a target above 1000 kPa (R75). -/
def Mod.InRange (m : Mod) : Prop := ∀ st ∈ m.held, st.target ≤ 1000

/-- The parameters blocks use lie in their ranges (R160, R162). -/
def Suc.InRange (u : Suc) : Prop := (∀ a, u.axle = some a → a.inRanges = true) ∧ u.vehicle.inRanges

theorem planRight_iff (s : State) : PlanRight s ↔ s.suc.InRange ∧ s.hpl.InRange ∧ s.mod.InRange := by
  have hm : s.mod.InRange ↔ (∀ st ∈ s.mod.queue, st.target ≤ 1000) ∧ ∀ f, s.mod.inFlight = some f → f.step.target ≤ 1000 := by
    unfold Mod.InRange Mod.held
    cases s.mod.inFlight <;> simp [or_imp, forall_and]
  rw [hm]
  unfold PlanRight Suc.InRange Plan.InRange
  constructor
  · rintro ⟨h1, h2, h3, h4, h5, h6, h7, h8, h9, h10, h11⟩
    exact ⟨⟨h1, h2⟩, ⟨h3, h4, h5, h6, h7, h8, h9⟩, h10, h11⟩
  · rintro ⟨⟨h1, h2⟩, ⟨h3, h4, h5, h6, h7, h8, h9⟩, h10, h11⟩
    exact ⟨h1, h2, h3, h4, h5, h6, h7, h8, h9, h10, h11⟩

/-! ### The parameters -/

theorem clampNat_range {lo hi : Nat} (h : lo ≤ hi) (x : Nat) : lo ≤ clampNat lo hi x ∧ clampNat lo hi x ≤ hi := by
  unfold clampNat
  split
  · omega
  · split <;> omega

theorem clampNat_of_range {lo hi x : Nat} (h1 : lo ≤ x) (h2 : x ≤ hi) : clampNat lo hi x = x := by
  unfold clampNat
  rw [if_neg (by omega), if_neg (by omega)]

theorem clampNat_idem {lo hi : Nat} (h : lo ≤ hi) (x : Nat) : clampNat lo hi (clampNat lo hi x) = clampNat lo hi x :=
  clampNat_of_range (clampNat_range h x).1 (clampNat_range h x).2

/-- A clamped CONFIG lies in its ranges (R162). -/
theorem inRanges_clamped (v : VehicleParams) : v.clamped.inRanges := by
  simp [VehicleParams.inRanges, VehicleParams.clamped, clampNat_idem]

/-- K_0 in its range (Table 10-3). -/
theorem k0_of_inRanges {v : VehicleParams} (h : v.inRanges) : 64 ≤ v.k0 := by
  rw [← show clampNat 64 128 v.k0 = v.k0 from congrArg VehicleParams.k0 h]
  exact (clampNat_range (by decide) _).1

/-- P_max in its range (Table 10-2). -/
theorem pMax_of_inRanges {a : AxleParams} (h : a.inRanges = true) : a.pMax ≤ 1000 := by
  simp only [AxleParams.inRanges, inRange, Bool.and_eq_true, decide_eq_true_eq] at h
  omega

/-- The brake gain in its range (Table 10-2). -/
theorem brakeGain_of_inRanges {a : AxleParams} (h : a.inRanges = true) : 0 < a.brakeGain := by
  simp only [AxleParams.inRanges, inRange, Bool.and_eq_true, decide_eq_true_eq] at h
  omega

theorem Suc.InRange.accept {u : Suc} (h : u.InRange) (p : List Byte) : (u.accept p).InRange := ⟨h.1, inRanges_clamped _⟩

/-! ### The plan record -/

/-- A division rounded up stays within a bound that its product covers. -/
theorem ceilDiv_le {a b c : Nat} (hb : 0 < b) (h : a ≤ b * c) : ceilDiv a b ≤ c := by
  unfold ceilDiv
  rw [← Nat.lt_add_one_iff, Nat.div_lt_iff_lt_mul hb]
  rw [Nat.add_mul, Nat.mul_comm c b]
  omega

/-- Multiplied back, a division rounded up covers what was divided. -/
theorem le_ceilDiv_mul (a : Nat) {b : Nat} (hb : 0 < b) : a ≤ ceilDiv a b * b := by
  unfold ceilDiv
  have := Nat.lt_div_mul_add hb (a := a + (b - 1))
  omega

/-- A share is no more than the capacity it is a share of (R59). -/
theorem shareOf_le (counted : Bool) (r pc c : Nat) : shareOf counted r pc c ≤ c := by
  unfold shareOf
  split
  · omega
  · split
    · omega
    · split
      · omega
      · exact ceilDiv_le (by omega) (Nat.mul_le_mul_right c (by omega))

theorem topPressure_le (s : State) {a : AxleParams} (h : a.inRanges = true) : topPressure s a ≤ 1000 := by
  have := pMax_of_inRanges h
  unfold topPressure
  split <;> omega

theorem marginFactor_range {s : State} (h : s.suc.vehicle.inRanges) : 64 ≤ marginFactor s ∧ marginFactor s ≤ 160 := by
  have := k0_of_inRanges h
  unfold marginFactor
  omega

/-- C_u is no more than C (R57). -/
theorem shareCapacity_le (s : State) {p : Plan} (h : p.c = min (p.cb + p.sc) p.l) : shareCapacity s p ≤ p.c := by
  unfold shareCapacity
  split <;> omega

/-- The capacity stage: C within L, P_top within 1000 kPa (R56, R57). -/
theorem capacityStage_range (s : State) {a : AxleParams} (h : a.inRanges = true) (p : Plan) :
    (capacityStage s a p).c ≤ (capacityStage s a p).l ∧ (capacityStage s a p).pTop ≤ 1000 :=
  ⟨Nat.min_le_right _ _, topPressure_le s h⟩

/-- The share stage leaves the share within C (R59, R60). -/
theorem shareStage_le (s : State) {p : Plan} (h : p.c = min (p.cb + p.sc) p.l) : (shareStage s p).share ≤ p.c := by
  have hc := shareCapacity_le s h
  unfold shareStage
  dsimp only
  split
  · exact (Nat.min_le_left _ _).trans hc
  · dsimp only
    split
    · exact (shareOf_le _ _ _ _).trans hc
    · exact Nat.zero_le _

/-- The share stage writes the share, the remainder and the pool capacity alone. -/
theorem shareStage_eq (s : State) (p : Plan) :
    ∃ r pc, shareStage s p = { p with r := r, poolCapacity := pc, share := (shareStage s p).share } := by
  unfold shareStage
  dsimp only
  split
  · exact ⟨p.r, p.poolCapacity, rfl⟩
  · exact ⟨_, _, rfl⟩

theorem springStage_eq (s : State) (a : AxleParams) (p : Plan) : ∃ x, springStage s a p = { p with springCapacity := x } := by
  unfold springStage
  split
  · exact ⟨_, rfl⟩
  · exact ⟨p.springCapacity, rfl⟩

theorem inRange_fullPlan {s : State} {a : AxleParams} (hv : s.suc.vehicle.inRanges) (ha : a.inRanges = true) :
    (fullPlan s a).InRange := by
  have hs := shareStage_le s (p := capacityStage s a (demandStage s a s.hpl)) rfl
  obtain ⟨r, pc, e⟩ := shareStage_eq s (capacityStage s a (demandStage s a s.hpl))
  obtain ⟨x, f⟩ := springStage_eq s a (achievedStage s a (targetStage s a (shareStage s (capacityStage s a (demandStage s a s.hpl)))))
  obtain ⟨hk, hk'⟩ := marginFactor_range hv
  obtain ⟨hc, hp⟩ := capacityStage_range s ha (demandStage s a s.hpl)
  unfold fullPlan
  rw [f, e]
  exact ⟨hk, hk', rfl, hs, hc, Nat.min_le_left _ _, hp⟩

theorem Plan.InRange.outside {s : State} (h : s.hpl.InRange) (hs : s.suc.InRange) : (outsidePlan s).InRange := by
  obtain ⟨h1, h2, h3, h4, h5, h6, h7⟩ := h
  unfold outsidePlan
  dsimp only
  split
  · obtain ⟨hc, hp⟩ := capacityStage_range s (hs.1 _ ‹_›)
      { s.hpl with g := some (gradeUsed s), lastG := gradeUsed s, share := 0 }
    exact ⟨h1, h2, h3, Nat.zero_le _, hc, Nat.min_le_left _ _, hp⟩
  · exact ⟨h1, h2, h3, Nat.zero_le _, h5, h6, h7⟩

/-- A computation of any state leaves the plan record in its ranges (R52). -/
theorem Plan.InRange.computed {s : State} (h : s.hpl.InRange) (hs : s.suc.InRange) : (computedPlan s).InRange := by
  have full : ((s.suc.axle.map (fullPlan s)).getD s.hpl).InRange := by
    cases ha : s.suc.axle with
    | none => exact h
    | some a => exact inRange_fullPlan hs.2 (hs.1 a ha)
  have locked : ((s.suc.axle.map (fun a => achievedStage s a s.hpl)).getD s.hpl).InRange := by
    obtain ⟨h1, h2, h3, h4, h5, h6, h7⟩ := h
    cases s.suc.axle with
    | none => exact ⟨h1, h2, h3, h4, h5, h6, h7⟩
    | some a => exact ⟨h1, h2, h3, h4, h5, Nat.min_le_left _ _, h7⟩
  unfold computedPlan
  split
  · exact h.outside hs
  · exact h.outside hs
  · exact h.outside hs
  · exact full
  · exact full
  · exact full
  · exact full
  · exact full
  · exact locked
  · exact h

/-! ### The steps of MOD -/

theorem Mod.InRange.of_held {m n : Mod} (h : m.InRange) (hs : n.held ⊆ m.held) : n.InRange := fun st hx => h st (hs hx)

theorem Mod.InRange.of_eq {m n : Mod} (h : m.InRange) (e : n.held = m.held) : n.InRange := fun st hx => h st (e ▸ hx)

theorem Mod.held_beginStep (st : Step) (m : Mod) : (m.beginStep st).held = m.queue ++ [st] := rfl

/-- The oldest pending step moves on to be in flight (R75). -/
theorem Mod.held_startNext (m : Mod) : m.startNext.held ⊆ m.held := by
  unfold Mod.startNext
  split
  · rename_i st rest hf hq
    intro x hx
    rw [Mod.held_beginStep] at hx
    simp only [Mod.held, hq, hf]
    simp only [List.mem_append, List.mem_singleton] at hx
    simp [hx.symm]
  · exact List.Subset.refl _

theorem Mod.held_moveOn (f : InFlight) (m : Mod) : (m.moveOn f).held ⊆ m.held := by
  refine List.Subset.trans (Mod.held_startNext _) ?_
  exact List.append_subset.2 ⟨List.subset_append_left _ _, List.nil_subset _⟩

theorem Mod.held_joinTo (j : Join) (m : Mod) : (m.joinTo j).mod.held ⊆ m.held := by
  unfold Mod.joinTo
  split
  · exact List.Subset.refl _
  · exact List.nil_subset _

theorem Mod.held_faultStep (m : Mod) : m.faultStep.mod.held ⊆ m.held := by
  unfold Mod.faultStep
  split
  · exact List.Subset.refl _
  · exact List.append_subset.2 ⟨List.subset_append_left _ _, List.nil_subset _⟩

/-- An evaluation goes on with the steps that were held (R80). -/
theorem Mod.held_evaluate (m : Mod) : m.evaluate.mod.held ⊆ m.held := by
  unfold Mod.evaluate
  split
  · exact List.Subset.refl _
  · rename_i f hf
    have same {g : InFlight} (h : g.step = f.step) : ({ m with inFlight := some g } : Mod).commandValves.held ⊆ m.held := by
      show m.queue ++ [g.step] ⊆ m.queue ++ (m.inFlight.map InFlight.step).toList
      rw [hf, h]
      exact List.Subset.refl _
    dsimp only
    split
    · split
      · exact same rfl
      · exact Mod.held_moveOn _ _
    · split
      · exact Mod.held_moveOn _ _
      · exact same rfl

theorem Mod.held_orderPark (b : Bool) (a : Option AxleParams) (t : Word32) (m : Mod) : (m.orderPark b a t).held = m.held := by
  unfold Mod.orderPark
  (repeat' split) <;> rfl

theorem Mod.held_springsAtStart (b : Bool) (a : AxleParams) (t : Word32) (m : Mod) : (m.springsAtStart b a t).held = m.held := by
  unfold Mod.springsAtStart
  (repeat' split) <;> rfl

theorem Mod.held_tick (m : Mod) : m.tick.held = m.held := by
  unfold Mod.tick Mod.held
  cases m.inFlight <;> rfl

theorem clampStep_target_le (p : Nat) (st : Step) : (clampStep p st).target ≤ p := by
  unfold clampStep
  split
  · exact Nat.le_refl _
  · omega

/-- A step appended is held behind the others, or alone, at P_top at most (R75). -/
theorem Mod.InRange.append {m : Mod} (h : m.InRange) {p : Nat} (hp : p ≤ 1000) (x : Source) (l : List Step) :
    (m.append p x l).mod.InRange := by
  have placed {n : Mod} {sts : List Step} (hs : ∀ st ∈ sts, st.target ≤ p) (hn : n.held ⊆ m.held ++ sts) : n.InRange :=
    fun st hx => (List.mem_append.1 (hn hx)).elim (h st) (fun hx => (hs st hx).trans hp)
  have clamped (st : Step) (hx : st ∈ l.map (clampStep p)) : st.target ≤ p := by
    obtain ⟨y, -, rfl⟩ := List.mem_map.1 hx
    exact clampStep_target_le p y
  have planner (st : Step) : (m.placePlanner st).mod.held ⊆ m.held ++ [st] := by
    unfold Mod.placePlanner
    split
    · exact List.subset_append_right _ _
    · rename_i f hf
      split
      · exact List.subset_append_right _ _
      · simp [Mod.held, hf]
  have behind (sts : List Step) : (m.placeBehind sts).mod.held ⊆ m.held ++ sts := by
    unfold Mod.placeBehind
    split
    · refine List.Subset.trans (Mod.held_startNext _) ?_
      intro x
      simp only [Mod.held, List.mem_append]
      tauto
    · exact List.subset_append_left _ _
  unfold Mod.append
  split
  · split
    · rename_i st rest he _
      exact placed (sts := [st]) (fun y hy => clamped y (by rw [he, List.mem_singleton.1 hy]; exact List.mem_cons_self)) (planner st)
    · exact placed clamped (behind _)
  · exact h

end Sys2Proof.Machine
end

section
/-! PROOFS. Every report of an event, and so every settling, keeps the plan record and its parameters in range (O11). -/

namespace Sys2Proof.Machine

set_option Elab.async false

section

variable {s t : State}

/-! ### Parts of an event -/

theorem PlanRight.suc (h : PlanRight s) : s.suc.InRange := ((planRight_iff s).1 h).1
theorem PlanRight.hpl (h : PlanRight s) : s.hpl.InRange := ((planRight_iff s).1 h).2.1
theorem PlanRight.mod (h : PlanRight s) : s.mod.InRange := ((planRight_iff s).1 h).2.2

theorem PlanRight.of_parts (hs : s.suc.InRange) (hp : s.hpl.InRange) (hm : s.mod.InRange) : PlanRight s :=
  (planRight_iff s).2 ⟨hs, hp, hm⟩

theorem PlanRight.ite {p : Prop} [Decidable p] (h : p → PlanRight s) (k : ¬ p → PlanRight t) :
    PlanRight (if p then s else t) := by
  split
  · exact h ‹_›
  · exact k ‹_›

/-- What leaves the parameters, the plan and MOD as the scenery has them keeps their ranges. -/
theorem PlanRight.follows (h : PlanRight s) (e : (scenery s).Follows (scenery t)) : PlanRight t := by
  obtain ⟨l, r, -, -, e⟩ := e
  have hs : t.suc = s.suc := suc_of_steady (congrArg Scenery.steady e)
  have hm : t.mod = s.mod := congrArg Scenery.mod e
  have hp : (scenery t).plan.InRange := by
    rw [show (scenery t).plan = (scenery s).plan from (congrArg Scenery.plan e).trans rfl]
    exact h.hpl
  exact .of_parts (hs ▸ h.suc) hp (hm ▸ h.mod)

theorem PlanRight.scene (h : PlanRight s) (e : scenery t = scenery s) : PlanRight t := h.follows (.of_eq e)

/-- What leaves the kernel but for MOD keeps the ranges that MOD keeps. -/
theorem PlanRight.kernel (h : PlanRight s) (hs : t.suc = s.suc) (e : kernel t = kernel s) : PlanRight t := by
  have hp : t.hpl = s.hpl := congrArg Kernel.hpl e
  have hm : t.mod = s.mod := congrArg Kernel.mod e
  exact .of_parts (hs ▸ h.suc) (hp ▸ h.hpl) (hm ▸ h.mod)

theorem suc_takeModResult (r : ModResult) (s : State) : (takeModResult r s).suc = s.suc := by
  unfold takeModResult
  dsimp only
  (repeat' split) <;> rfl

theorem PlanRight.takeModResult (h : PlanRight s) {r : ModResult} (hr : r.mod.InRange) : PlanRight (takeModResult r s) := by
  refine .of_parts ?_ ?_ ?_
  · rw [suc_takeModResult]; exact h.suc
  · rw [takeModResult_hpl]; exact h.hpl
  · rw [takeModResult_mod]; exact hr

theorem PlanRight.joinTo (h : PlanRight s) (j : Join) : PlanRight (joinTo j s) :=
  PlanRight.takeModResult (s := { s with hpl := { s.hpl with limitTimer := if j = s.mod.join then s.hpl.limitTimer else none } })
    h (h.mod.of_held (Mod.held_joinTo j s.mod))

theorem PlanRight.appendSteps (h : PlanRight s) (x : Source) (l : List Step) : PlanRight (appendSteps x l s) := by
  obtain ⟨-, -, -, -, -, -, hp⟩ := h.hpl
  exact h.takeModResult (h.mod.append hp x l)

theorem PlanRight.evaluate (h : PlanRight s) : PlanRight (Machine.takeModResult s.mod.evaluate s) :=
  h.takeModResult (h.mod.of_held (Mod.held_evaluate _))

theorem PlanRight.faultStep (h : PlanRight s) : PlanRight (faultStep s) :=
  h.takeModResult (h.mod.of_held (Mod.held_faultStep _))

/-- A computation leaves the plan record in its ranges (R53). -/
theorem PlanRight.compute (h : PlanRight s) : PlanRight (compute s) := by
  have e := kernel_compute s
  have hp : (Machine.compute s).hpl = computedPlan s := congrArg Kernel.hpl e
  have hm : (Machine.compute s).mod = s.mod := congrArg Kernel.mod e
  have hs : (Machine.compute s).suc = s.suc := suc_of_steady (steady_compute s)
  exact .of_parts (hs ▸ h.suc) (hp ▸ h.hpl.computed h.suc) (hm ▸ h.mod)

theorem PlanRight.submissionDecision (h : PlanRight s) (b : Bool) : PlanRight (submissionDecision b s) :=
  .ite (fun _ => .ite
    (fun _ => PlanRight.appendSteps (s := { s with hpl := { s.hpl with lastSubmitted := s.hpl.pT, decreaseWait := none } }) h _ _)
    (fun _ => h)) (fun _ => h)

theorem PlanRight.planEvent (h : PlanRight s) (b : Bool) : PlanRight (planEvent b s) := by
  obtain ⟨v, hv, hk, -, -⟩ := planEvent_decides b s
  have hs : v.suc = s.suc := suc_of_steady ((steady_submissionDecision b v).symm.trans ((congrArg steady hv.symm).trans (steady_planEvent b s)))
  have hp : v.hpl = computedPlan s := congrArg Kernel.hpl hk
  have hm : v.mod = s.mod := congrArg Kernel.mod hk
  rw [hv]
  exact (PlanRight.of_parts (hs ▸ h.suc) (hp ▸ h.hpl.computed h.suc) (hm ▸ h.mod)).submissionDecision b

theorem PlanRight.sync (h : PlanRight s) : PlanRight (sync s) := h

theorem PlanRight.reformAnswers (h : PlanRight s) : PlanRight (reformAnswers s) :=
  h.kernel (suc_of_steady (steady_reformAnswers s)) (kernel_reformAnswers s)

theorem PlanRight.limitedByEnd (h : PlanRight s) (e : StepEnd) : PlanRight (limitedByEnd e s) := by
  have call {u : State} (b : Bool) (hu : PlanRight u) : PlanRight (callStatusIf b u) := .ite (fun _ => hu) (fun _ => hu)
  unfold Machine.limitedByEnd
  split
  · exact call _ h
  · exact .ite (fun _ => call _ h) (fun _ => h)
  · exact h
  · exact h

/-! ### Transitions and their outputs -/

theorem PlanRight.hops (h : PlanRight s) (r : Hops s t) : PlanRight t := by
  induction r with
  | refl => exact h
  | tail _ r ih =>
    rcases r with r | rfl
    · exact ih.follows (scenery_hop r)
    · exact ih.scene (scenery_followLift _)

theorem PlanRight.outputs (h : PlanRight s) : PlanRight (outputs s) := by
  have h1 : PlanRight (parkForState s) := by
    unfold parkForState
    split
    · exact .of_parts h.suc h.hpl (h.mod.of_eq (Mod.held_orderPark _ _ _ _))
    · exact h
  have h2 : PlanRight (joinForState (parkForState s)) := h1.joinTo _
  exact .ite (fun _ => (h2.sync.compute).appendSteps _ _) (fun _ => h2)

theorem PlanRight.afterMove (h : PlanRight s) : PlanRight (afterMove s) := (h.hops (hops_chain _ _)).outputs

theorem PlanRight.moveTo (h : PlanRight s) (x : StationState) : PlanRight (moveTo x s) :=
  (h.scene (scenery_enterState x s)).afterMove

theorem PlanRight.cancelExchange (h : PlanRight s) (p : LeaverPhase) : PlanRight (cancelExchange p s) :=
  PlanRight.scene (s := placeHandoff (.cancel s.hoe.toggle) { s with hoe := s.hoe.endExchange p }) h (scenery_returnToOrigin _)

theorem PlanRight.abortRelease (h : PlanRight s) (w : AbortReason) : PlanRight (abortRelease w s) :=
  PlanRight.moveTo (s := countCreep { s with rsq := s.rsq.abort w }) h _

theorem PlanRight.takeTurn (h : PlanRight s) : PlanRight (takeTurn s) :=
  PlanRight.appendSteps (s := { s with rsq := s.rsq.takeTurn }) h _ _

/-! ### The reports -/

theorem PlanRight.testExits (h : PlanRight s) : PlanRight (testExits s) := by
  have h1 : PlanRight (tendHandoff (followLift s)) := h.scene (scenery_followLift s)
  unfold Machine.testExits
  dsimp only
  split
  · exact (h1.follows (scenery_hop (hop_applyMove ‹_›))).afterMove
  · have h2 := (h1.scene (scenery_minor .deferAsk)).scene (scenery_minor .testUnpark)
    exact .ite (fun _ => h2.joinTo _) (fun _ => h2)

theorem PlanRight.takeEnd (h : PlanRight s) (e : StepEnd) : PlanRight (takeEnd e s) := by
  have h1 : PlanRight (noteEnd e s) := h.limitedByEnd e
  rw [takeEnd_eq, takeUnparkEnd]
  refine .ite (fun _ => ?_) (fun _ => h1)
  split
  · exact h1.moveTo _
  · exact h1
  · exact h1
  · exact h1

theorem PlanRight.takeAbortEvent (h : PlanRight s) : PlanRight (takeAbortEvent s) :=
  .ite (fun _ => h.abortRelease _) (fun _ => .ite (fun _ => (h.scene (scenery_rehold s)).afterMove) (fun _ => h))

theorem PlanRight.testAbort (h : PlanRight s) : PlanRight (testAbort s) :=
  .ite (fun _ => .ite (fun _ => h.abortRelease _) (fun _ => .ite (fun _ => h.abortRelease _) (fun _ => h))) (fun _ => h)

theorem PlanRight.testRamp (h : PlanRight s) : PlanRight (testRamp s) := by
  have h1 := h.scene (scenery_released s)
  refine .ite (fun _ => ?_) (fun _ => .ite (fun _ => ?_) (fun _ => h))
  · rw [endHandoffRamp_eq]
    exact (h.follows ⟨_, _, List.Subset.refl _, .inr rfl, scenery_rampOver s⟩).afterMove
  · rw [completeRelease_eq]
    exact PlanRight.afterMove (.ite (fun _ => h1.scene (scenery_rehold _)) (fun _ => h1))

theorem PlanRight.testSuccess (h : PlanRight s) : PlanRight (testSuccess s) := by
  have h1 := PlanRight.joinTo (s := { s with hoe := { s.hoe with phase := .ramp, attemptTimer := none, rampSteps := 0 } }) h .release
  exact .ite (fun _ => h1.appendSteps _ _) (fun _ => h)

theorem scenery_takeRollaway (r : Rollaway) (s : State) : scenery (takeRollaway r s) = scenery s := by
  unfold takeRollaway
  split
  · exact scenery_enterState _ _
  · rfl

/-- Every report keeps the ranges. -/
theorem PlanRight.report (h : PlanRight s) (r : Report s t) : PlanRight t := by
  have pop (a : Agenda) : PlanRight { s with agenda := a } := h
  cases r with
  | stepEnd e rest _ => exact (pop _).takeEnd e
  | rollaway c rest _ =>
    have h1 := (pop { s.agenda with rollaways := rest }).scene (scenery_takeRollaway c _)
    exact .ite (fun _ => h1.afterMove) (fun _ => h1)
  | peerAlarm n rest _ =>
    have h1 := (pop { s.agenda with peerAlarms := rest }).scene (scenery_takeAlarmCause (peerCause n) _)
    exact .ite (fun _ => h1.afterMove) (fun _ => h1)
  | abortEvent _ => exact (pop _).takeAbortEvent
  | yield m rest _ =>
    exact .ite (fun _ => (PlanRight.cancelExchange (s := { s with
      agenda := { s.agenda with yields := rest }, hoe := { s.hoe with replies := Table.fill none } }) h _).afterMove) (fun _ => h)
  | exits _ => exact (pop _).testExits
  | plan _ => exact (pop _).planEvent _
  | abortTest _ => exact (pop _).testAbort
  | turn _ => exact .ite (fun _ => (pop _).takeTurn) (fun _ => h)
  | ramp _ => exact (pop _).testRamp
  | success _ => exact (pop _).testSuccess
  | answers _ => exact (pop _).reformAnswers

/-- Settling keeps the ranges. -/
theorem PlanRight.settle (h : PlanRight s) : PlanRight (settle s) :=
  settle_induction (P := PlanRight) (fun _ h => h.sync) (fun _ _ h r => h.report r) (fun _ h => h) h

end

end Sys2Proof.Machine
end

section
/-! PROOFS. Every command and every step keep the plan record, the parameters and MOD's targets in range (O11). -/

namespace Sys2Proof.Machine

set_option Elab.async false

section

variable {s t : State}

/-! ### The parts of a command -/

theorem PlanRight.askPlanIf (h : PlanRight s) (b : Bool) : PlanRight (askPlanIf b s) := .ite (fun _ => h) (fun _ => h)

/-- The link and its slots are no part of the ranges. -/
theorem PlanRight.failAttempt (h : PlanRight s) : PlanRight (failAttempt s) :=
  .ite (fun _ => h) (fun _ => .ite (fun _ => h) (fun _ => .ite (fun _ => h) (fun _ => h)))

theorem PlanRight.deliverAlarm (h : PlanRight s) (n : StationNo) (p : List Byte) : PlanRight (deliverAlarm n p s) := by
  unfold Machine.deliverAlarm
  split
  · rename_i c _
    have h1 := PlanRight.scene (s := callStatus s) h (scenery_takeAlarmCause c _)
    exact .ite (fun _ => h1.afterMove) (fun _ => h1)
  · exact h

theorem PlanRight.takeForeign (h : PlanRight s) (alarm : Option (List Byte)) : PlanRight (takeForeign alarm s) := by
  have h1 : PlanRight (raiseFault .duplicateId { s with ptb := { s.ptb with lastDuplicate := some s.now } }) := h
  cases alarm with
  | none => exact h1
  | some p => exact h1.deliverAlarm (own s) p

/-- A frame received keeps the ranges where its delivery does. -/
theorem PlanRight.receiveFrom (h : PlanRight s) (o : Origin) (alarm : Option (List Byte)) {deliver : State → State}
    (hd : ∀ u, PlanRight u → PlanRight (deliver u)) : PlanRight (receiveFrom o alarm deliver s) := by
  have h1 : PlanRight { s with lnk := s.lnk.heard } := h
  exact .ite (fun _ => .ite (fun _ => (h1.takeForeign alarm).settle) (fun _ => hd _ h1)) (fun _ => h)

theorem PlanRight.diagDeliver (h : PlanRight s) (q : DiagRequest) {f : State → State} (hf : ∀ u, PlanRight u → PlanRight (f u)) :
    PlanRight (diagDeliver q f s) :=
  h.receiveFrom _ _ (fun u hu => .ite (fun _ => hf u hu) (fun _ => hu))

/-- The parameters found valid lie in their ranges (R160). -/
theorem PlanRight.takeParameters (h : PlanRight s) {w : List Word16} (hw : (readAxle w).inRanges = true) :
    PlanRight (takeParameters w s) := by
  refine .of_parts ⟨fun a ha => ?_, h.suc.2⟩ h.hpl (h.mod.of_eq (Mod.held_springsAtStart _ _ _ _))
  injection ha with ha
  exact ha ▸ hw

theorem PlanRight.askRamp (h : PlanRight s) : PlanRight (askRamp s) := h

theorem PlanRight.takePressure (h : PlanRight s) (p : Nat) : PlanRight (takePressure p s) := by
  have h1 : PlanRight (runLimitTimer { s with mod := { s.mod with pMeas := p } }) := h
  exact (h1.sync.planEvent false).evaluate.askRamp

theorem PlanRight.slipComparison (h : PlanRight s) : PlanRight (slipComparison s) := .ite (fun _ => h) (fun _ => h)

theorem PlanRight.rollawayTest (h : PlanRight s) : PlanRight (rollawayTest s) := .ite (fun _ => h) (fun _ => h)

theorem PlanRight.cabReports (h : PlanRight s) (x : CabChange) : PlanRight (cabReports x s) :=
  h.kernel (suc_of_steady (steady_cabReports x s)) (kernel_cabReports x s)

theorem PlanRight.armAcknowledgement (h : PlanRight s) : PlanRight (armAcknowledgement s) := .ite (fun _ => h) (fun _ => h)

theorem PlanRight.testAcknowledgement (h : PlanRight s) : PlanRight (testAcknowledgement s) :=
  .ite (fun _ => PlanRight.moveTo (s := { s with
    alarm := { s.alarm with ackPeers := alarmPeers s, ackArmed := false }, lnk := { s.lnk with alarmSlot := none } }) h _)
    (fun _ => h)

theorem PlanRight.takeCab (h : PlanRight s) (p : List Byte) : PlanRight (takeCab p s) :=
  (PlanRight.cabReports (s := writeCab p s) h _).armAcknowledgement.testAcknowledgement.settle

theorem PlanRight.withDrum (h : PlanRight s) (d : DrumRecord) : PlanRight (withDrum d s) :=
  (PlanRight.askPlanIf (s := { s with ptb := { s.ptb with drum := d } }) h _).settle

theorem PlanRight.takeStatus (h : PlanRight s) (n : StationNo) (e : Entry) : PlanRight (takeStatus n e s) := by
  have h1 : PlanRight (endReplier (decide (((entryOf s n).rewritten e).state ≠ .leaving)) n
      (setEntry n ((entryOf s n).rewritten e) s)) := .ite (fun _ => h) (fun _ => h)
  exact PlanRight.settle (s := entryReports n _ _ (endReplier _ n _)) h1

theorem PlanRight.takeRequest (h : PlanRight s) (m : StationNo) (q : RequestBody) : PlanRight (takeRequest m q s) := by
  have h1 (b : Bool) {u : State} (hu : PlanRight u) : PlanRight (answerNow m b u) := by
    unfold answerNow
    split
    · exact hu
    · exact hu
  exact PlanRight.settle (.ite (fun _ => h) (fun _ => h1 _ h))

theorem PlanRight.failExchange (h : PlanRight s) : PlanRight (failExchange s) :=
  PlanRight.cancelExchange (s := raiseFault .handoffFailed { s with hoe := { s.hoe with retryWait := some retryPeriod } }) h _

theorem PlanRight.takeReply (h : PlanRight s) (q : ReplyBody) : PlanRight (takeReply q s) :=
  PlanRight.settle (.ite (fun _ => (PlanRight.failExchange (s := { s with hoe := { s.hoe with
    replies := s.hoe.replies.set q.replier (some { answer := q.answer, force := q.force }) } }) h).afterMove) (fun _ => h))

theorem PlanRight.takeConfig (h : PlanRight s) (p : List Byte) : PlanRight (takeConfig p s) := by
  have h1 : PlanRight (askPlan (askExits { s with suc := s.suc.accept p })) := .of_parts (h.suc.accept p) h.hpl h.mod
  refine .ite (fun _ => .ite (fun _ => h) (fun _ => ?_)) (fun _ => .ite (fun _ => ?_) (fun _ => h))
  · exact PlanRight.settle (s := raiseFault .configConflict (countUnclaimed s)) h
  · exact PlanRight.settle (.ite (fun _ => h1) (fun _ => h1))

/-! ### The answers -/

theorem PlanRight.readItem (h : PlanRight s) (q : DiagRequest) : PlanRight (readItem q s) := by
  unfold Machine.readItem
  split <;> split <;> exact h

theorem PlanRight.clearItem (h : PlanRight s) (q : DiagRequest) : PlanRight (clearItem q s) := by
  have clear (f : Flag) : PlanRight (if s.stc.faults.get f then clearFlag f s else s) :=
    .ite (fun _ => .ite (fun _ => h) (fun _ => h)) (fun _ => h)
  unfold Machine.clearItem
  split
  · exact PlanRight.settle (s := answer q _ none _ (if s.stc.faults.get _ then clearFlag _ s else s)) (clear _)
  · exact h

theorem PlanRight.takeTest (h : PlanRight s) (q : DiagRequest) : PlanRight (takeTest q s) := by
  have h1 := (h.joinTo .test).appendSteps .test [testStep q]
  exact .ite (fun _ => PlanRight.settle (.ite (fun _ => h1) (fun _ => h1))) (fun _ => h)

theorem PlanRight.readRecord (h : PlanRight s) (q : DiagRequest) : PlanRight (readRecord q s) := by
  have cursor (k : Cursor) {u : State} (hu : PlanRight u) : PlanRight (answerFromCursor q k u) := by
    unfold answerFromCursor
    split <;> exact hu
  refine .ite (fun _ => .ite (fun _ => cursor _ h) (fun _ => ?_)) (fun _ => h)
  split
  · exact .ite (fun _ => cursor _ h) (fun _ => h)
  · exact h

/-! ### The timers -/

theorem PlanRight.holdTimeReached (h : PlanRight s) : PlanRight (holdTimeReached s) := by
  unfold Machine.holdTimeReached
  split
  · exact h.moveTo _
  · exact h
  · exact h

theorem PlanRight.decreaseWaitOver (h : PlanRight s) : PlanRight (decreaseWaitOver s) :=
  .ite (fun _ => PlanRight.appendSteps
    (s := { s with hpl := { s.hpl with decreaseWait := none, lastSubmitted := s.hpl.pT } }) h _ _) (fun _ => h)

theorem PlanRight.nextAttempt (h : PlanRight s) : PlanRight (nextAttempt s) :=
  .ite (fun _ => h) (fun _ => h.failExchange.afterMove)

/-! ### Every command and every step -/

/-- Every command but RESET keeps the ranges. -/
theorem PlanRight.exec {c : Instr} (h : PlanRight s) (hc : notReset c = true) (hx : exec c s = .next t) : PlanRight t := by
  have counted (u : State) (hu : PlanRight u) : PlanRight (countUnclaimed u) := hu
  have sameOrSettled {p : Prop} [Decidable p] {u : State} (hu : PlanRight u) : PlanRight (if p then Machine.settle u else s) :=
    .ite (fun _ => hu.settle) (fun _ => h)
  cases c with
  | reset p => cases hc
  | parameterMemoryReadEnd bytes ending =>
    cases hx
    refine sameOrSettled (.ite (fun hw => h.takeParameters ?_) (fun _ => h))
    exact (Bool.and_eq_true_iff.1 hw).2
  | inhibitSample a =>
    cases hx
    exact .ite (fun _ => h) (fun _ => PlanRight.settle (s := askExits { s with suc := s.suc.sampleInhibit a }) h)
  | accelerometerSample r =>
    cases hx
    have h1 : PlanRight (sampleAccelerometer r s) := by cases r <;> exact h
    exact PlanRight.settle (s := askPlan (Machine.slipComparison (sampleAccelerometer r s))) h1.slipComparison
  | loadSample raw =>
    cases hx
    have h1 : PlanRight (sampleLoad raw s) := .ite (fun _ => h) (fun _ => h)
    exact PlanRight.settle (s := askPlan (sampleLoad raw s)) h1
  | chamberPressureSample raw =>
    cases hx
    exact PlanRight.settle (.ite (fun _ => h.faultStep) (fun _ => h.takePressure _))
  | supplySample raw =>
    cases hx
    have h1 : PlanRight (if pressureRawBad raw then raiseFault .supplySensor { s with mod := s.mod.sampleSupply raw }
      else { s with mod := s.mod.sampleSupply raw }) := .ite (fun _ => h) (fun _ => h)
    exact PlanRight.settle (s := askPlan _) h1
  | valveDriverFault d r => cases hx; exact PlanRight.settle (s := raiseFault .valveDriver (Machine.faultStep s)) h.faultStep
  | wheelPulse w d =>
    cases hx
    exact PlanRight.settle (s := pulseReports s (Machine.rollawayTest (pulse w d s))) (PlanRight.rollawayTest (s := pulse w d s) h)
  | springApplyTimerExpiry =>
    cases hx
    exact sameOrSettled (PlanRight.askPlanIf (s := { s with mod := s.mod.springsApplied s.suc.spring }) h _)
  | holdTimeTimerExpiry =>
    cases hx
    exact sameOrSettled (PlanRight.holdTimeReached (s := { s with stc := { s.stc with holdTimer := none } }) h)
  | limitTimerExpiry =>
    cases hx
    exact sameOrSettled (.ite (fun _ => h) (fun _ => h))
  | decreaseWaitExpiry => cases hx; exact sameOrSettled (u := askAnswers (Machine.decreaseWaitOver s)) h.decreaseWaitOver
  | cabNotice o p =>
    cases hx
    exact h.receiveFrom _ _ (fun u hu => .ite (fun _ => hu.takeCab p) (fun _ => counted u hu))
  | cabRecordStaling =>
    cases hx
    exact sameOrSettled (PlanRight.cabReports (s := { s with
      ptb := { s.ptb with cab := { s.ptb.cab with fresh := false, staleTimer := none } } }) h _).armAcknowledgement
  | drumNotice o p =>
    cases hx
    exact h.receiveFrom _ _ (fun u hu => .ite (fun _ => hu.withDrum _) (fun _ => counted u hu))
  | drumRecordStaling => cases hx; exact .ite (fun _ => h.withDrum _) (fun _ => h)
  | statusNotice o p =>
    cases hx
    refine h.receiveFrom _ _ (fun u hu => ?_)
    split
    · exact hu.takeStatus _ _
    · exact counted u hu
  | alarmNotice o p =>
    cases hx
    refine h.receiveFrom _ _ (fun u hu => ?_)
    split
    · exact (hu.deliverAlarm _ _).settle
    · exact counted u hu
  | handoffRequest o b =>
    cases hx
    refine h.receiveFrom _ _ (fun u hu => ?_)
    split
    · exact .ite (fun _ => .ite (fun _ => hu.takeRequest _ _) (fun _ => hu)) (fun _ => counted u hu)
    · exact counted u hu
  | handoffReply o b =>
    cases hx
    refine h.receiveFrom _ _ (fun u hu => ?_)
    split
    · exact .ite (fun _ => .ite (fun _ => hu.takeReply _) (fun _ => hu)) (fun _ => counted u hu)
    · exact counted u hu
  | handoffCancel o b =>
    cases hx
    refine h.receiveFrom _ _ (fun u hu => ?_)
    split
    · exact .ite (fun _ => PlanRight.settle hu) (fun _ => counted u hu)
    · exact counted u hu
  | attemptTimerExpiry => cases hx; exact sameOrSettled h.nextAttempt
  | driveOffTimerExpiry =>
    cases hx
    exact sameOrSettled (.ite (fun _ => PlanRight.moveTo (s := { s with rsq := { s.rsq with driveOffTimer := none } }) h _)
      (fun _ => h))
  | turnTimerExpiry =>
    cases hx
    exact sameOrSettled (.ite (fun _ => PlanRight.takeTurn (s := { s with rsq := { s.rsq with turnTimer := none } }) h)
      (fun _ => h))
  | lapseTimerExpiry => cases hx; exact sameOrSettled (.ite (fun _ => h.abortRelease _) (fun _ => h))
  | reholdWindowExpiry => cases hx; exact .ite (fun _ => h) (fun _ => h)
  | configNotice o p =>
    cases hx
    exact h.receiveFrom _ _ (fun u hu => .ite (fun _ => hu.takeConfig p) (fun _ => counted u hu))
  | foreignOwnOriginFrame k p => cases hx; exact h.receiveFrom _ _ (fun _ hu => hu)
  | invalidFrame r => cases hx; exact .ite (fun _ => h) (fun _ => h)
  | transmitStart =>
    cases hx
    refine .ite (fun _ => ?_) (fun _ => h)
    split <;> exact h
  | arbitrationLost => cases hx; exact h
  | transmitError => cases hx; exact sameOrSettled h.failAttempt
  | frameCompleted a =>
    cases hx
    show PlanRight (match s.lnk.transmission with | some t => _ | none => s)
    split
    · exact PlanRight.settle (.ite (fun _ => h) (fun _ => h.failAttempt))
    · exact h
  | receiveTimerExpiry =>
    cases hx
    exact .ite (fun _ => .ite (fun _ => h) (fun _ => PlanRight.settle (s := loseLink _) h)) (fun _ => h)
  | announceTimerExpiry => cases hx; exact .ite (fun _ => h) (fun _ => h)
  | diagRead q => cases hx; exact h.diagDeliver q (fun _ hu => hu.readItem q)
  | diagClear q => cases hx; exact h.diagDeliver q (fun _ hu => hu.clearItem q)
  | diagWrite q => cases hx; exact h.diagDeliver q (fun _ hu => .ite (fun _ => hu.takeTest q) (fun _ => hu))
  | diagRecord q => cases hx; exact h.diagDeliver q (fun _ hu => hu.readRecord q)
  | diagTest q => cases hx; exact h.diagDeliver q (fun _ hu => hu.takeTest q)
  | diagUnknownOpcode q op => cases hx; exact h.diagDeliver q (fun _ hu => hu)
  | unclaimedValidFrame f => cases hx; exact h.receiveFrom _ _ counted
  | _ => cases hx; exact sameOrSettled h

theorem PlanRight.advance (h : PlanRight s) : PlanRight (advance s) :=
  .of_parts h.suc h.hpl (h.mod.of_eq (Mod.held_tick _))

end

/-- Settles O11: every command, the state after reset and a millisecond keep the ranges. -/
theorem stepKeepsPlan : Obligations.StepKeepsPlan := by
  intro s t h hs
  rcases step_cases hs with ⟨c, u, hu, hc, hx⟩ | ⟨x, hx⟩ | rfl
  · exact PlanRight.exec (s := u) (by rw [hu]; exact h) hc hx
  · rw [hx]
    exact planRight_afterReset x
  · exact h.advance

end Sys2Proof.Machine
end

section
/-! PROOFS. The median of grades (O20) and the shares of a remainder (O21). -/

namespace Sys2Proof.Machine

set_option Elab.async false

/-! ### The sorted grades -/

theorem perm_sortedGrades (l : List Int) : (sortedGrades l).Perm l := List.perm_insertionSort _ l

theorem pairwise_sortedGrades (l : List Int) : (sortedGrades l).Pairwise (· ≤ ·) := List.pairwise_insertionSort _ l

/-- A list in order is the sorted one of each of its rearrangements. -/
theorem sortedGrades_of_perm {l w : List Int} (hp : l.Perm w) (hw : w.Pairwise (· ≤ ·)) : sortedGrades l = w :=
  ((perm_sortedGrades l).trans hp).eq_of_pairwise' (pairwise_sortedGrades l) hw

theorem medianGrade_perm {l k : List Int} (h : k.Perm l) : medianGrade k = medianGrade l := by
  unfold medianGrade
  rw [sortedGrades_of_perm (h.trans (perm_sortedGrades l).symm) (pairwise_sortedGrades l)]

/-! ### The middle of a list in order -/

/-- A list has its middle grade `a` where `lo` and `hi`, of one length, lie on either side of it. -/
structure MiddleOne (l lo hi : List Int) (a : Int) : Prop where
  perm : l.Perm (lo ++ a :: hi)
  even : lo.length = hi.length
  below : ∀ x ∈ lo, x ≤ a
  above : ∀ x ∈ hi, a ≤ x

/-- A list has its two middle grades `a` and `b`. -/
structure MiddleTwo (l lo hi : List Int) (a b : Int) : Prop where
  perm : l.Perm (lo ++ a :: b :: hi)
  even : lo.length = hi.length
  below : ∀ x ∈ lo, x ≤ a
  le : a ≤ b
  above : ∀ x ∈ hi, b ≤ x

/-- Two sorted lists about a grade between them are one sorted list. -/
theorem pairwise_about {lo hi : List Int} {a : Int} (hl : ∀ x ∈ lo, x ≤ a) (hh : ∀ x ∈ hi, a ≤ x) :
    (sortedGrades lo ++ a :: sortedGrades hi).Pairwise (· ≤ ·) := by
  have hl' (x) (hx : x ∈ sortedGrades lo) : x ≤ a := hl x ((perm_sortedGrades lo).mem_iff.1 hx)
  have hh' (x) (hx : x ∈ sortedGrades hi) : a ≤ x := hh x ((perm_sortedGrades hi).mem_iff.1 hx)
  refine List.pairwise_append.2 ⟨pairwise_sortedGrades lo, List.pairwise_cons.2 ⟨hh', pairwise_sortedGrades hi⟩, fun x hx y hy => ?_⟩
  rcases List.mem_cons.1 hy with rfl | hy
  · exact hl' x hx
  · exact (hl' x hx).trans (hh' y hy)

theorem MiddleOne.median {l lo hi : List Int} {a : Int} (h : MiddleOne l lo hi a) : medianGrade l = some a := by
  have hw : sortedGrades l = sortedGrades lo ++ a :: sortedGrades hi :=
    sortedGrades_of_perm
      (h.perm.trans ((perm_sortedGrades lo).symm.append ((perm_sortedGrades hi).symm.cons a))) (pairwise_about h.below h.above)
  have h1 : (sortedGrades lo).length = hi.length := (perm_sortedGrades lo).length_eq.trans h.even
  have h2 : (sortedGrades hi).length = hi.length := (perm_sortedGrades hi).length_eq
  have hn : (sortedGrades l).length = 2 * hi.length + 1 := by
    rw [hw, List.length_append, List.length_cons, h1, h2]
    omega
  unfold medianGrade
  dsimp only
  rw [hn, if_neg (by omega), if_pos (by omega), hw, List.getElem?_append_right (by omega), h1,
    show (2 * hi.length + 1) / 2 - hi.length = 0 by omega]
  rfl

theorem MiddleTwo.median {l lo hi : List Int} {a b : Int} (h : MiddleTwo l lo hi a b) :
    medianGrade l = some (steeper a b) := by
  have hs : sortedGrades (b :: hi) = b :: sortedGrades hi :=
    sortedGrades_of_perm ((perm_sortedGrades hi).symm.cons b)
      (List.pairwise_cons.2 ⟨fun x hx => h.above x ((perm_sortedGrades hi).mem_iff.1 hx), pairwise_sortedGrades hi⟩)
  have hbhi : ∀ x ∈ b :: hi, a ≤ x := by
    intro x hx
    rcases List.mem_cons.1 hx with rfl | hx
    · exact h.le
    · exact h.le.trans (h.above x hx)
  have hw : sortedGrades l = sortedGrades lo ++ a :: b :: sortedGrades hi := by
    rw [← hs]
    exact sortedGrades_of_perm
      (h.perm.trans ((perm_sortedGrades lo).symm.append ((perm_sortedGrades (b :: hi)).symm.cons a))) (pairwise_about h.below hbhi)
  have h1 : (sortedGrades lo).length = hi.length := (perm_sortedGrades lo).length_eq.trans h.even
  have h2 : (sortedGrades hi).length = hi.length := (perm_sortedGrades hi).length_eq
  have hn : (sortedGrades l).length = 2 * hi.length + 2 := by
    rw [hw, List.length_append, List.length_cons, List.length_cons, h1, h2]
    omega
  unfold medianGrade
  dsimp only
  rw [hn, if_neg (by omega), if_neg (by omega), hw, List.getElem?_append_right (by omega),
    List.getElem?_append_right (by omega), h1, show (2 * hi.length + 2) / 2 - 1 - hi.length = 0 by omega,
    show (2 * hi.length + 2) / 2 - hi.length = 1 by omega]
  rfl

/-- A list in order, cut at a place, lies about the grade there. -/
theorem cut_sortedGrades (l : List Int) {i : Nat} (hi : i < (sortedGrades l).length) :
    (∀ x ∈ (sortedGrades l).take i, x ≤ (sortedGrades l)[i])
      ∧ (∀ x ∈ (sortedGrades l).drop (i + 1), (sortedGrades l)[i] ≤ x)
      ∧ (sortedGrades l).take i ++ (sortedGrades l)[i] :: (sortedGrades l).drop (i + 1) = sortedGrades l := by
  have hw : (sortedGrades l).take i ++ (sortedGrades l)[i] :: (sortedGrades l).drop (i + 1) = sortedGrades l := by
    rw [List.getElem_cons_drop, List.take_append_drop]
  have hp := pairwise_sortedGrades l
  rw [← hw] at hp
  obtain ⟨-, h2, h3⟩ := List.pairwise_append.1 hp
  exact ⟨fun x hx => h3 x hx _ List.mem_cons_self, (List.pairwise_cons.1 h2).1, hw⟩

/-- Every list of grades but the empty one has one middle grade or two. -/
theorem exists_middle {l : List Int} (hl : l ≠ []) :
    (∃ lo hi a, MiddleOne l lo hi a) ∨ (∃ lo hi a b, MiddleTwo l lo hi a b) := by
  have hpos : 0 < (sortedGrades l).length := by
    rw [(perm_sortedGrades l).length_eq]
    exact List.length_pos_iff.2 hl
  by_cases hodd : (sortedGrades l).length % 2 = 1
  · obtain ⟨h1, h2, h3⟩ := cut_sortedGrades l (i := (sortedGrades l).length / 2) (by omega)
    refine .inl ⟨_, _, _, ?_, ?_, h1, h2⟩
    · rw [h3]
      exact (perm_sortedGrades l).symm
    · rw [List.length_take, List.length_drop]
      omega
  · obtain ⟨h1, h2, h3⟩ := cut_sortedGrades l (i := (sortedGrades l).length / 2 - 1) (by omega)
    obtain ⟨-, h5, -⟩ := cut_sortedGrades l (i := (sortedGrades l).length / 2 - 1 + 1) (by omega)
    rw [← List.getElem_cons_drop (i := (sortedGrades l).length / 2 - 1 + 1) (by omega)] at h2 h3
    refine .inr ⟨_, _, _, _, ?_, ?_, h1, h2 _ List.mem_cons_self, h5⟩
    · rw [h3]
      exact (perm_sortedGrades l).symm
    · rw [List.length_take, List.length_drop]
      omega

/-- Of a list in two parts about a grade no more lie below the grade than the one part holds, and no more above it than the
other. -/
theorem counts_about {l lo hi : List Int} {g : Int} (hp : l.Perm (lo ++ g :: hi)) (hl : ∀ x ∈ lo, x ≤ g)
    (hh : ∀ x ∈ hi, g ≤ x) :
    g ∈ l ∧ l.countP (fun x => decide (x < g)) ≤ lo.length ∧ l.countP (fun x => decide (g < x)) ≤ hi.length := by
  have h1 : hi.countP (fun x => decide (x < g)) = 0 := List.countP_eq_zero.2 fun x hx => by simpa using hh x hx
  have h2 : lo.countP (fun x => decide (g < x)) = 0 := List.countP_eq_zero.2 fun x hx => by simpa using hl x hx
  refine ⟨hp.mem_iff.2 (by simp), ?_, ?_⟩
  · rw [hp.countP_eq, List.countP_append, List.countP_cons_of_neg (by simp), h1]
    exact List.countP_le_length
  · rw [hp.countP_eq, List.countP_append, List.countP_cons_of_neg (by simp), h2, Nat.zero_add]
    exact List.countP_le_length

/-- At most half of the grades lie below a median, and at most half above it. -/
def Halves (l : List Int) (g : Int) : Prop :=
  g ∈ l ∧ 2 * l.countP (fun x => decide (x < g)) ≤ l.length ∧ 2 * l.countP (fun x => decide (g < x)) ≤ l.length

theorem MiddleOne.halves {l lo hi : List Int} {a : Int} (h : MiddleOne l lo hi a) : Halves l a := by
  obtain ⟨h1, h2, h3⟩ := counts_about h.perm h.below h.above
  have hn := h.perm.length_eq
  have he := h.even
  simp only [List.length_append, List.length_cons] at hn
  exact ⟨h1, by omega, by omega⟩

theorem MiddleTwo.halves {l lo hi : List Int} {a b : Int} (h : MiddleTwo l lo hi a b) : Halves l a ∧ Halves l b := by
  have hp : l.Perm ((lo ++ [a]) ++ b :: hi) := by simpa using h.perm
  obtain ⟨h1, h2, h3⟩ := counts_about h.perm h.below (hi := b :: hi) fun x hx => by
    rcases List.mem_cons.1 hx with rfl | hx
    · exact h.le
    · exact h.le.trans (h.above x hx)
  obtain ⟨k1, k2, k3⟩ := counts_about hp (fun x hx => by
    rcases List.mem_append.1 hx with hx | hx
    · exact (h.below x hx).trans h.le
    · rw [List.mem_singleton.1 hx]
      exact h.le) h.above
  have hn := h.perm.length_eq
  have he := h.even
  simp only [List.length_append, List.length_cons, List.length_nil] at hn h3 k2
  exact ⟨⟨h1, by omega, by omega⟩, k1, by omega, by omega⟩

/-- Settles O20: the middle of the sorted grades is the median, and every list but the empty one has a middle. -/
theorem medianIsAGrade : Obligations.MedianIsAGrade := by
  refine ⟨fun l hl => ?_, fun l k h => medianGrade_perm h, fun l lo hi a h1 h2 h3 h4 => MiddleOne.median ⟨h1, h2, h3, h4⟩,
    fun l lo hi a b h1 h2 h3 h4 h5 => MiddleTwo.median ⟨h1, h2, h3, h4, h5⟩⟩
  rcases exists_middle hl with ⟨lo, hi, a, h⟩ | ⟨lo, hi, a, b, h⟩
  · obtain ⟨h1, h2, h3⟩ := h.halves
    exact ⟨a, h1, h.median, h2, h3⟩
  · have hs : Halves l (steeper a b) := by
      unfold steeper
      split
      · exact h.halves.1
      · exact h.halves.2
    obtain ⟨h1, h2, h3⟩ := hs
    exact ⟨_, h1, h.median, h2, h3⟩

/-! ### The shares of a remainder (R59) -/

/-- The shares of a flexible set, multiplied by its capacity, cover the remainder as often as the set has capacity. -/
theorem mul_sum_le_shares (r pc : Nat) (h : r < pc) (caps : List Nat) :
    r * caps.sum ≤ (caps.map (shareOf true r pc)).sum * pc := by
  induction caps with
  | nil => simp
  | cons c caps ih =>
    have hc : shareOf true r pc c = ceilDiv (r * c) pc := by
      unfold shareOf
      rw [if_neg (by simp), if_neg (by omega), if_neg (by omega)]
    have := le_ceilDiv_mul (r * c) (b := pc) (by omega)
    rw [List.sum_cons, List.map_cons, List.sum_cons, Nat.mul_add, Nat.add_mul, hc]
    omega

/-- Settles O21: each share rounded up covers its part, and the parts make up the remainder. -/
theorem sharesCoverTheRemainder : Obligations.SharesCoverTheRemainder := by
  intro caps r h
  refine ⟨?_, fun c _ => shareOf_le true r _ c, ?_⟩
  · exact Nat.le_of_mul_le_mul_right (mul_sum_le_shares r caps.sum h caps) (by omega)
  · unfold shortfallOf
    rw [decide_eq_false (show ¬ caps.sum ≤ r by omega), Bool.and_false]

end Sys2Proof.Machine
end

section
/-! PROOFS. A full computation, each value from its inputs (O22), and the computation of a station in isolated mode (O23). -/

namespace Sys2Proof.Machine

set_option Elab.async false

section

variable (s : State) (a : AxleParams)

/-! ### The values of a full computation -/

/-- The values of the demand stage are those of the plan (R54, R55). -/
theorem fullPlan_demand :
    (fullPlan s a).g = some (gradeUsed s) ∧ (fullPlan s a).lastG = gradeUsed s ∧ (fullPlan s a).m = poolMass s a
      ∧ (fullPlan s a).k = marginFactor s ∧ (fullPlan s a).ge = effectiveGrade (gradeUsed s) s.suc.vehicle.gMin
      ∧ (fullPlan s a).fReq = requiredForce (fullPlan s a).m (fullPlan s a).ge (fullPlan s a).k
      ∧ (fullPlan s a).fNom = nominalForce (fullPlan s a).m (gradeUsed s) := by
  unfold fullPlan springStage shareStage
  split <;> split <;> exact ⟨rfl, rfl, rfl, rfl, rfl, rfl, rfl⟩

/-- So are those of the capacity stage (R56, R57). -/
theorem fullPlan_capacity :
    (fullPlan s a).pTop = topPressure s a
      ∧ (fullPlan s a).cb = capacityPressure s.hpl (fullPlan s a).pTop * a.brakeGain / 100
      ∧ (fullPlan s a).l = frictionLimit s a ∧ (fullPlan s a).sc = springsCountedForce s a
      ∧ (fullPlan s a).c = min ((fullPlan s a).cb + (fullPlan s a).sc) (fullPlan s a).l := by
  unfold fullPlan springStage shareStage
  split <;> split <;> exact ⟨rfl, rfl, rfl, rfl, rfl⟩

/-- In normal mode the share comes from the remainder and the pool capacity (R58, R59). -/
theorem fullPlan_pooled (h : isolatedMode s = false) :
    (fullPlan s a).r = remainderOf s (fullPlan s a).fReq
      ∧ (fullPlan s a).poolCapacity = poolCapacityOf s (shareCapacity s (fullPlan s a))
      ∧ (fullPlan s a).share
          = (if s.stc.state.sharing then
              shareOf (ownCounted s) (fullPlan s a).r (fullPlan s a).poolCapacity (shareCapacity s (fullPlan s a))
             else 0) := by
  unfold fullPlan springStage shareStage
  rw [h]
  split <;> exact ⟨rfl, rfl, rfl⟩

/-- In isolated mode it is taken of the own capacity alone (R60). -/
theorem fullPlan_isolated (h : isolatedMode s = true) :
    (fullPlan s a).r = s.hpl.r ∧ (fullPlan s a).poolCapacity = s.hpl.poolCapacity
      ∧ (fullPlan s a).share = min (shareCapacity s (fullPlan s a)) (fullPlan s a).fReq := by
  unfold fullPlan springStage shareStage
  rw [h]
  split <;> exact ⟨rfl, rfl, rfl⟩

/-- The spring force that the target is lowered by: none during an un-park (R62). -/
def springRelief : Nat := if s.stc.unparkMark then 0 else (fullPlan s a).sc

/-- The pressure that the share asks for, before P_top (R62). -/
def wantedPressure : Nat := demandPressure (fullPlan s a).share (springRelief s a) a.brakeGain

/-- The last stages: target, clamped mark and achieved force (R62, R63). -/
theorem fullPlan_target :
    (fullPlan s a).pT = min (wantedPressure s a) (fullPlan s a).pTop
      ∧ (fullPlan s a).clamped = decide ((fullPlan s a).pTop < wantedPressure s a)
      ∧ (fullPlan s a).a = achievedForce (fullPlan s a).l (fullPlan s a).sc a.brakeGain s.mod.pMeas := by
  unfold wantedPressure springRelief fullPlan springStage shareStage
  split <;> split <;> exact ⟨rfl, rfl, rfl⟩

theorem fullPlan_share_le : (fullPlan s a).share ≤ (fullPlan s a).c := by
  have h := shareStage_le s (p := capacityStage s a (demandStage s a s.hpl)) rfl
  unfold fullPlan springStage
  obtain ⟨r, pc, e⟩ := shareStage_eq s (capacityStage s a (demandStage s a s.hpl))
  split <;> rw [e] <;> exact h

/-! ### The target (R62) -/

theorem demandPressure_floor (share sc gain : Nat) :
    demandPressure share sc gain = 0 ∨ pFloor ≤ demandPressure share sc gain := by
  unfold demandPressure
  dsimp only
  split
  · exact .inl rfl
  · exact .inr (Nat.le_max_right _ _)

/-- The pressure of a demand carries it (R62). -/
theorem le_demandPressure (share sc : Nat) {gain : Nat} (h : 0 < gain) :
    share * 100 ≤ demandPressure share sc gain * gain + sc * 100 := by
  have h1 := le_ceilDiv_mul ((share - sc) * 100) h
  have h2 : ceilDiv ((share - sc) * 100) gain * gain ≤ demandPressure share sc gain * gain := by
    refine Nat.mul_le_mul_right _ ?_
    unfold demandPressure
    dsimp only
    split
    · omega
    · exact Nat.le_max_left _ _
  omega

/-! ### The readings of the capacities -/

theorem topPressure_of_fault (h : hasFault s .supplySensor = true) : topPressure s a = a.pMax / 2 := if_pos h

theorem topPressure_of_no_fault (h : hasFault s .supplySensor = false) : topPressure s a = min a.pMax (s.mod.pSup - 30) :=
  if_neg (by rw [show s.stc.faults.supplySensor = false from h]; simp)

/-- The coefficients of the three surface classes (R57). -/
theorem friction_eq (x : Surface) : x.friction = (match x with | .dry => 600 | .wet => 400 | .loose => 250) := by
  cases x <;> rfl

theorem springsCountedForce_eq :
    springsCountedForce s a = if s.suc.spring ∧ s.mod.springsCounted then a.springForce else 0 := by
  unfold springsCountedForce
  simp only [Bool.and_eq_true]

/-! ### The pool (R58, R59) -/

theorem isolatedMode_of_flags (h : isolatedFlags s = false) : isolatedMode s = false := by
  unfold isolatedMode
  rw [h, Bool.false_and]

theorem ownCounted_iff : ownCounted s = true ↔ own s ∈ s.ptb.flexibleSet ∨ s.stc.state = .alarm := by
  simp [ownCounted]

/-- M in normal mode, with the axle parameters that STC holds (R50, R54). -/
theorem poolMass_pooled (h : isolatedMode s = false) (ha : s.suc.axle = some a) :
    poolMass s a
      = ((s.ptb.pool.filter (fun n => decide (n ≠ own s))).map (fun n => (entryOf s n).load)).sum
        + (if own s ∈ s.ptb.pool ∨ s.stc.state = .alarm then
             (if s.glu.loadValid then s.glu.loadAverage.getD 0 else a.ratedLoad)
           else 0) := by
  have hm : massContribution s = if s.glu.loadValid then s.glu.loadAverage.getD 0 else a.ratedLoad := by
    unfold massContribution
    rw [ha]
    rfl
  unfold poolMass
  rw [h, hm]
  simp

/-- The share as R59 tables it. -/
theorem shareOf_eq (counted : Bool) (r pc c : Nat) :
    shareOf counted r pc c
      = if counted = true ∧ pc ≠ 0 then (if pc ≤ r then c else ceilDiv (r * c) pc) else 0 := by
  unfold shareOf
  cases counted
  · simp
  · by_cases hp : pc = 0 <;> simp [hp]

theorem shortfallFound_pooled (p : Plan) (h : isolatedMode s = false) :
    shortfallFound s p = true
      ↔ s.stc.state.sharing = true ∧ ownCounted s = true ∧ p.poolCapacity ≠ 0 ∧ p.poolCapacity ≤ p.r := by
  unfold shortfallFound shortfallOf
  rw [h]
  simp [and_assoc]

theorem shortfallFound_isolated (p : Plan) (h : isolatedMode s = true) :
    shortfallFound s p = true ↔ p.c < p.fReq ∧ p.c ≠ 0 := by
  unfold shortfallFound
  rw [h]
  simp

end

/-- The own grade, where it is valid, or the fallback, is the grade of isolated mode (R60). -/
theorem gradeUsed_isolated {s : State} (h : isolatedMode s = true) :
    gradeUsed s = if s.glu.gradeValid then s.glu.ownGrade.getD (fallbackGrade s.hpl.lastG) else fallbackGrade s.hpl.lastG := by
  unfold gradeUsed
  rw [h]
  cases s.glu.gradeValid <;> rfl

/-- Settles O22: each stage of the computation from its inputs, and what the target carries. -/
theorem targetCarriesTheShare : Obligations.TargetCarriesTheShare := by
  intro s a ha
  obtain ⟨hg, hl, hm, hk, he, hr, hn⟩ := fullPlan_demand s a
  obtain ⟨hp, hcb, hL, hsc, hc⟩ := fullPlan_capacity s a
  obtain ⟨ht, hcl, hA⟩ := fullPlan_target s a
  refine ⟨fun h => hp.trans (topPressure_of_fault s a h), fun h => hp.trans (topPressure_of_no_fault s a h), hc,
    fullPlan_share_le s a, ?_, ?_, fun h => ?_, hA, hk, ⟨_, hg, hl, he, hn⟩, hr, hcb, ?_, ?_, ?_⟩
  · rw [ht]
    exact Nat.min_le_right _ _
  · rcases demandPressure_floor (fullPlan s a).share (springRelief s a) a.brakeGain with h | h
    · exact .inl (by rw [ht, show wantedPressure s a = 0 from h, Nat.zero_min])
    · have : pFloor ≤ wantedPressure s a := h
      omega
  · rw [hcl] at h
    have : (fullPlan s a).pT = wantedPressure s a := by
      have := of_decide_eq_false h
      omega
    rw [this]
    exact le_demandPressure _ _ (brakeGain_of_inRanges ha)
  · exact hL.trans (congrArg (fun x => frictionLoad s a * x / 1000) (friction_eq (cabNow s).surface))
  · rw [hsc, springsCountedForce_eq]
  · intro c counted hi hcu hco
    have hi := isolatedMode_of_flags s hi
    obtain ⟨h1, h2, h3⟩ := fullPlan_pooled s a hi
    have hcu : shareCapacity s (fullPlan s a) = c := hcu.symm
    have hco : ownCounted s = counted := Bool.eq_iff_iff.2 ((ownCounted_iff s).trans hco.symm)
    refine ⟨fun hax => hm.trans (poolMass_pooled s a hi hax), h1, ?_, ?_, ?_⟩
    · rw [h2, hcu, poolCapacityOf, hco]
    · rw [h3, hco, hcu, shareOf_eq]
      cases s.stc.state.sharing <;> simp
    · rw [shortfallFound_pooled s _ hi, hco]

/-- Settles O23: the stages of a full computation in isolated mode. -/
theorem isolatedComputation : Obligations.IsolatedComputation := by
  intro s a hf hs
  have hi : isolatedMode s = true := by rw [isolatedMode, hf, hs]; rfl
  obtain ⟨hg, -, hm, -, -, hr, -⟩ := fullPlan_demand s a
  obtain ⟨h1, h2, h3⟩ := fullPlan_isolated s a hi
  refine ⟨hm.trans (if_pos hi), ?_, ?_, h3, h1, h2, shortfallFound_isolated s _ hi⟩
  · rw [hg, gradeUsed_isolated hi]
    rfl
  · rw [hr, hm.trans (if_pos hi)]
    rfl

end Sys2Proof.Machine
end

section
/-! PROOFS. The samples of the accelerometer and of the load sensor (O28). -/

namespace Sys2Proof.Machine

set_option Elab.async false

/-! ### The accelerometer (R43 to R45) -/

/-- The state that an accelerometer sample settles. -/
def accelerated (r : Option Int) (s : State) : State := askPlan (slipComparison (sampleAccelerometer r s))

theorem exec_accelerometerSample (r : Option Int) (s : State) :
    exec (.accelerometerSample r) s = .next (settle (accelerated r s)) := rfl

/-- The slip comparison writes nothing of GLU, and no flag (R99). -/
theorem glu_accelerated (r : Option Int) (s : State) :
    (accelerated r s).glu = (sampleAccelerometer r s).glu ∧ (accelerated r s).stc = (sampleAccelerometer r s).stc := by
  unfold accelerated slipComparison
  dsimp only
  split <;> exact ⟨rfl, rfl⟩

/-- An answered sample enters the window of a standing axle (R43, R44). -/
theorem answered_entered (r : Int) (a : AxleParams) (g : Glu) :
    g.answered r true (some a)
      = { g.withAccWindow (enterWindow accPlaces (clampInt (-2000) 2000 r - a.accOffset) g.accWindow) with
          accAnswering := true } := rfl

/-- It is disregarded while the axle moves, or its parameters are not valid (R43, R44). -/
theorem answered_disregarded (r : Int) {b : Bool} {a : Option AxleParams} (h : b = false ∨ a = none) (g : Glu) :
    g.answered r b a = { g with accAnswering := true } := by
  unfold Glu.answered
  rcases h with rfl | rfl
  · cases a <;> rfl
  · rfl

/-! ### The load sensor (R49) -/

/-- The state that a load sample settles. -/
def loaded (raw : BitVec 12) (s : State) : State := askPlan (sampleLoad raw s)

theorem exec_loadSample (raw : BitVec 12) (s : State) : exec (.loadSample raw) s = .next (settle (loaded raw s)) := rfl

theorem loadRawBad_iff (raw : BitVec 12) : loadRawBad raw = true ↔ raw.toNat = 0 ∨ raw.toNat = 4095 := by
  simp [loadRawBad]

theorem glu_loaded (raw : BitVec 12) (s : State) :
    (loaded raw s).glu = s.glu.loadSample raw s.stc.faults.loadSensor s.suc.axle := by
  unfold loaded sampleLoad
  dsimp only
  split <;> rfl

/-- A load at either end of the range raises LOAD_SENSOR (R49). -/
theorem loadSensor_loaded {raw : BitVec 12} (s : State) (h : loadRawBad raw = true) :
    hasFault (loaded raw s) .loadSensor = true := by
  unfold loaded sampleLoad
  dsimp only
  rw [if_pos h]
  rfl

/-- A raw value within the range writes the window that its parameters ask for (R49). -/
theorem loadSample_good {raw : BitVec 12} (h : loadRawBad raw = false) (b : Bool) (x : Option AxleParams) (g : Glu) :
    g.loadSample raw b x
      = (match x with
        | some a => ({ g with lastLoadRaw := some raw } : Glu).withLoadWindow
            (enterWindow loadPlaces (convertedLoad raw a) g.loadWindow)
        | none => { g with lastLoadRaw := some raw }) := by
  unfold Glu.loadSample
  rw [h]
  cases x <;> rfl

/-- One at either end empties a window that had been trusted (R49). -/
theorem loadWindow_bad {raw : BitVec 12} (h : loadRawBad raw = true) (b : Bool) (x : Option AxleParams) (g : Glu) :
    (g.loadSample raw b x).loadWindow = if b then g.loadWindow else [] := by
  unfold Glu.loadSample
  dsimp only
  rw [if_pos h]
  cases b <;> rfl

/-- A station with LOAD_SENSOR set shows no valid load (R49). -/
theorem Settled.no_load {s : State} (h : Settled s) (hf : hasFault s .loadSensor = true) : s.glu.loadValid = false := by
  have hf : s.stc.faults.loadSensor = true := hf
  rw [← h.agree.load]
  simp [loadValidOf, hf]

/-- Settles O28: no report of the event writes a window or its average, or clears a sensor's flag. -/
theorem sensorWindows : Obligations.SensorWindows := by
  refine ⟨fun s => ⟨fun r a hs ha => ⟨_, exec_accelerometerSample _ s, ?_⟩, fun r h => ⟨_, exec_accelerometerSample _ s, ?_⟩,
    _, exec_accelerometerSample _ s, ?_⟩, fun raw s => ⟨fun a h0 h1 ha => ⟨_, exec_loadSample raw s, ?_⟩,
    fun h0 h1 ha => ⟨_, exec_loadSample raw s, ?_⟩, fun h => ⟨_, exec_loadSample raw s, ?_⟩⟩⟩
  · have hg : (accelerated (some r) s).glu = _ := (glu_accelerated (some r) s).1
    rw [show (sampleAccelerometer (some r) s).glu = s.glu.answered r true (some a) by rw [← hs, ← ha]; rfl,
      answered_entered] at hg
    rw [settle_accAnswering, settle_accWindow, settle_accAverage, settle_ownGrade, hg]
    exact ⟨rfl, rfl, rfl, rfl⟩
  · have hg : (accelerated (some r) s).glu = _ := (glu_accelerated (some r) s).1
    rw [show (sampleAccelerometer (some r) s).glu = _ from answered_disregarded r h s.glu] at hg
    rw [settle_accAnswering, settle_accWindow, hg]
    exact ⟨rfl, rfl⟩
  · obtain ⟨hg, hc⟩ := glu_accelerated none s
    have hf : hasFault (settle (accelerated none s)) .gradeSensor = true :=
      (kept_flag (f := .gradeSensor) rfl).settle (by rw [hc]; rfl)
    rw [settle_accAnswering, settle_accWindow, settle_accAverage, hg]
    exact ⟨rfl, rfl, rfl, hf, (settle_settled _).no_grade hf⟩
  · have hb : loadRawBad raw = false := Bool.eq_false_iff.2 fun h => ((loadRawBad_iff raw).1 h).elim h0 h1
    rw [settle_lastLoadRaw, settle_loadWindow, settle_loadAverage, glu_loaded, loadSample_good hb, ha]
    exact ⟨rfl, rfl, rfl⟩
  · have hb : loadRawBad raw = false := Bool.eq_false_iff.2 fun h => ((loadRawBad_iff raw).1 h).elim h0 h1
    rw [settle_loadWindow, glu_loaded, loadSample_good hb, ha]
  · have hb := (loadRawBad_iff raw).2 h
    have hf : hasFault (settle (loaded raw s)) .loadSensor = true :=
      (kept_flag (f := .loadSensor) rfl).settle (loadSensor_loaded s hb)
    rw [settle_loadWindow, glu_loaded, loadWindow_bad hb]
    exact ⟨hf, (settle_settled _).no_load hf, rfl⟩

end Sys2Proof.Machine
end

section
/-! PROOFS. A station with a failure raised goes to FAILED by the reports of the event (R20): by the first transition that it takes, and
at the test of its exits at the latest. -/

namespace Sys2Proof.Machine

set_option Elab.async false

/-! ### The way to FAILED -/

/-- A failure raised stays so (R20). -/
theorem kept_failureRaised : Kept (fun s => failureRaised s = true) := by
  have h (s : State) : failureRaised s = true
      ↔ s.stc.faults.get .pressureSensor = true ∨ s.stc.faults.get .valveDriver = true := by
    simp [failureRaised, FaultSet.get]
  have k1 := kept_flag (f := .pressureSensor) rfl
  have k2 := kept_flag (f := .valveDriver) rfl
  simp only [h]
  exact
    { nearly := fun _ _ hs q => hs.imp (fun x => k1.nearly _ _ x q) (fun x => k2.nearly _ _ x q)
      followLift := fun _ hs => hs.imp (k1.followLift _) (k2.followLift _)
      hop := fun _ _ hs r => hs.imp (fun x => k1.hop _ _ x r) (fun x => k2.hop _ _ x r)
      minor := fun _ _ hs m => hs.imp (fun x => k1.minor _ _ x m) (fun x => k2.minor _ _ x m) }

/-- With a failure raised the first exit leads to FAILED, but from FAILED itself (R3, R20). -/
theorem exitMove_failing {s : State} (h : failureRaised s = true) (hs : s.stc.state ≠ .failed) :
    exitMove s = some (.goto .failed) := by
  unfold exitMove
  rw [if_pos (by simp [h, hs])]

/-- With a failure raised what follows a transition ends in FAILED. -/
theorem afterMove_failing {s : State} (h : failureRaised s = true) : (afterMove s).stc.state = .failed := by
  refine kept_failed.nearly _ _ ?_ (nearly_outputs _)
  show (chain (9 + 1) s).stc.state = .failed
  by_cases hs : (followLift s).stc.state = .failed
  · refine kept_failed.hops ?_ (hops_chain _ _)
    rwa [← show (followLift s).stc.state = s.stc.state by unfold followLift; split <;> rfl]
  · rw [chain, exitMove_failing (kept_failureRaised.followLift s h) hs]
    exact kept_failed.hops rfl (hops_chain _ _)

theorem testExits_failing {s : State} (h : failureRaised s = true) : (testExits s).stc.state = .failed := by
  have h1 : failureRaised (tendHandoff (followLift s)) = true := kept_failureRaised.followLift s h
  by_cases hs : s.stc.state = .failed
  · exact kept_failed.run hs (acts_testExits s)
  · have hx := exitMove_failing h1 (show (followLift s).stc.state ≠ .failed by unfold followLift; split <;> exact hs)
    unfold testExits
    dsimp only
    rw [hx]
    exact afterMove_failing (kept_failureRaised.hop _ _ h1 (hop_applyMove hx))

/-! ### The reports before the test of the exits -/

/-- A failure is raised, and of the reports from outside the event only ends of steps and rollaways are on the agenda; a test of the
exits or a plan event, which calls for one, is asked for. -/
structure Failing (s : State) : Prop where
  raised : failureRaised s = true
  peerAlarms : s.agenda.peerAlarms = []
  yields : s.agenda.yields = []
  abortEvent : s.agenda.abortEvent = false
  asks : s.agenda.exits = true ∨ s.agenda.plan = true

/-- A bound on the reports before a test of the exits: a plan event may end one step and find one rollaway. -/
def beforeExits (a : Agenda) : Nat := a.ends.length + a.rollaways.length + (if a.exits then 0 else 3)

theorem agenda_submissionDecision (b : Bool) (s : State) :
    (submissionDecision b s).agenda.ends.length ≤ s.agenda.ends.length + 1
      ∧ (submissionDecision b s).agenda.rollaways = s.agenda.rollaways
      ∧ (s.agenda.exits = true → (submissionDecision b s).agenda.exits = true) := by
  have take (r : ModResult) (u : State) (hu : u.agenda = s.agenda) (he : ∀ e, r.ended = some e → e.outcome = .superseded) :
      (takeModResult r u).agenda.ends.length ≤ s.agenda.ends.length + 1
        ∧ (takeModResult r u).agenda.rollaways = s.agenda.rollaways
        ∧ (s.agenda.exits = true → (takeModResult r u).agenda.exits = true) := by
    have hl : r.ended.toList.length ≤ 1 := by cases r.ended <;> simp
    have ha : (u.agenda.ends ++ r.ended.toList).length ≤ s.agenda.ends.length + 1 := by
      rw [List.length_append, hu]
      omega
    rw [takeModResult_superseded r u he, ← hu]
    split
    · exact ⟨hu ▸ ha, rfl, fun h => by simp [raiseFault, putFault, h]⟩
    · exact ⟨hu ▸ ha, rfl, id⟩
  unfold submissionDecision
  split
  · split
    · exact take _ _ rfl (fun e he => Mod.append_ended _ _ _ _ e he)
    · exact ⟨Nat.le_succ _, rfl, id⟩
  · exact ⟨Nat.le_succ _, rfl, id⟩

theorem rollaways_formDownhill (s : State) :
    (formDownhill s).agenda.rollaways.length ≤ s.agenda.rollaways.length + 1 := by
  unfold formDownhill rollawayTest
  dsimp only
  split
  · exact Nat.le_succ _
  · split
    · simp [reportRollaway]
    · exact Nat.le_succ _

theorem rollaways_compute (s : State) : (compute s).agenda.rollaways = s.agenda.rollaways := by
  unfold compute callStatusIf currentConditions
  dsimp only
  (repeat' split) <;> rfl

/-- What a plan event adds to the agenda: a step superseded and a rollaway at most, and a test of the exits. -/
theorem agenda_planEvent (b : Bool) (s : State) :
    (planEvent b s).agenda.ends.length ≤ s.agenda.ends.length + 1
      ∧ (planEvent b s).agenda.rollaways.length ≤ s.agenda.rollaways.length + 1 ∧ (planEvent b s).agenda.exits = true := by
  have decides : ∃ v, planEvent b s = submissionDecision b v ∧ v.agenda.exits = true
      ∧ v.agenda.rollaways.length ≤ s.agenda.rollaways.length + 1 := by
    refine ⟨_, rfl, rfl, (rollaways_formDownhill _).trans ?_⟩
    exact Nat.le_of_eq (congrArg (fun l => l.length + 1) (rollaways_compute (comparePlausibility s)))
  refine ⟨?_, ?_, ?_⟩
  · obtain ⟨v, hv, -, -, he⟩ := planEvent_decides b s
    rw [hv, ← he]
    exact (agenda_submissionDecision b v).1
  · obtain ⟨v, hv, -, hr⟩ := decides
    rw [hv, (agenda_submissionDecision b v).2.1]
    exact hr
  · obtain ⟨v, hv, hx, -⟩ := decides
    rw [hv]
    exact (agenda_submissionDecision b v).2.2 hx

/-- A plan event leads to a test of the exits (R53). -/
theorem failing_planEvent (b : Bool) {s : State} (hf : failureRaised s = true) (hp : s.agenda.peerAlarms = [])
    (hy : s.agenda.yields = []) (hb : s.agenda.abortEvent = false) : Failing (planEvent b s) := by
  have q := quietly_planEvent b s
  refine ⟨kept_failureRaised.nearly _ _ hf q.toNearly, ?_, ?_, ?_, .inl (agenda_planEvent b s).2.2⟩
  · exact List.eq_nil_iff_forall_not_mem.2 fun n hn => by simpa [hp] using q.calls.peerAlarms n hn
  · exact List.eq_nil_iff_forall_not_mem.2 fun n hn => by simpa [hy] using q.calls.yields n hn
  · exact Bool.eq_false_iff.2 fun hx => by simpa [hb] using q.calls.abortEvent hx

/-- The reports that come from outside the event's own tests. -/
def Agenda.outside (a : Agenda) : List StepEnd × List Rollaway × List StationNo × List StationNo × Bool :=
  (a.ends, a.rollaways, a.peerAlarms, a.yields, a.abortEvent)

/-- What HOE and RSQ count of a step's end, and the reports it asks for, come from inside the event. -/
theorem outside_countRampStep (e : StepEnd) (u : State) :
    (askPlan (askExits (askAnswers (askRamp (countRampStep e u))))).agenda.outside = u.agenda.outside := rfl

/-- The end of a step noted, with a failure raised, asks for a test of the exits (R85). -/
theorem failing_noteEnd {e : StepEnd} {s : State} (h : failureRaised s = true) :
    failureRaised (noteEnd e s) = true ∧ (noteEnd e s).agenda.exits = true
      ∧ (noteEnd e s).agenda.outside = s.agenda.outside := by
  have hl : failureRaised (limitedByEnd e s) = true := kept_failureRaised.nearly _ _ h (quietly_limitedByEnd e s).toNearly
  refine ⟨hl, rfl, (outside_countRampStep e (limitedByEnd e s)).trans ?_⟩
  rw [(limitedByEnd_agenda e s {}).2]

/-- The end of a step leads to FAILED, or to a test of the exits (R85). -/
theorem failing_takeEnd {e : StepEnd} {s : State} (h : failureRaised s = true) :
    (takeEnd e s).stc.state = .failed
      ∨ (failureRaised (takeEnd e s) = true ∧ (takeEnd e s).agenda.exits = true
          ∧ (takeEnd e s).agenda.outside = s.agenda.outside) := by
  have hn := failing_noteEnd (e := e) h
  rw [takeEnd_eq]
  generalize noteEnd e s = u at hn ⊢
  unfold takeUnparkEnd
  split
  · split
    · exact .inl (afterMove_failing (s := enterState .holding u) hn.1)
    · exact .inr hn
    · exact .inr hn
    · exact .inr hn
  · exact .inr hn

/-- An own rollaway leads to FAILED by way of ALARM, or is counted (R136). -/
theorem failing_takeOwnRollaway {r : Rollaway} {s : State} (h : failureRaised s = true) :
    (takeOwnRollaway r s).stc.state = .failed ∨ takeOwnRollaway r s = countAlarm s := by
  unfold takeOwnRollaway takeRollaway
  dsimp only
  split
  · exact .inl (afterMove_failing (s := enterAlarm (ownCause (own s) r)
      (placeAlarm { reason := r.reason, travel := r.travel, grade := r.grade } (countAlarm s))) h)
  · exact .inr rfl

/-- The next report of such a station leads to FAILED, or lowers the bound. -/
theorem Failing.next {s : State} (h : Failing s) :
    ∃ t, nextReport s = some t
      ∧ (t.stc.state = .failed ∨ (Failing t ∧ beforeExits t.agenda < beforeExits s.agenda)) := by
  obtain ⟨hf, hp, hy, hb, ha⟩ := h
  have outside {t : State} {l : List StepEnd} {rs : List Rollaway} (ht : failureRaised t = true)
      (hx : t.agenda.exits = true ∨ t.agenda.plan = true) (ho : t.agenda.outside = (l, rs, [], [], false)) :
      Failing t ∧ t.agenda.ends = l ∧ t.agenda.rollaways = rs := by
    simp only [Agenda.outside, Prod.mk.injEq] at ho
    obtain ⟨h1, h2, h3, h4, h5⟩ := ho
    exact ⟨⟨ht, h3, h4, h5, hx⟩, h1, h2⟩
  cases he : s.agenda.ends with
  | cons e rest =>
    have hn : nextReport s = some (takeEnd e { s with agenda := { s.agenda with ends := rest } }) := by
      simp only [nextReport, he]
    refine ⟨_, hn, (failing_takeEnd (s := { s with agenda := { s.agenda with ends := rest } }) hf).imp_right ?_⟩
    rintro ⟨h1, h2, h3⟩
    obtain ⟨k, k1, k2⟩ := outside (l := rest) (rs := s.agenda.rollaways) h1 (.inl h2)
      (h3.trans (by simp [Agenda.outside, hp, hy, hb]))
    refine ⟨k, ?_⟩
    rw [beforeExits, beforeExits, k1, k2, h2, if_pos rfl, he, List.length_cons]
    omega
  | nil =>
    cases hr : s.agenda.rollaways with
    | cons r rest =>
      have hn : nextReport s = some (takeOwnRollaway r { s with agenda := { s.agenda with rollaways := rest } }) := by
        simp only [nextReport, he, hr]
      refine ⟨_, hn, (failing_takeOwnRollaway (s := { s with agenda := { s.agenda with rollaways := rest } }) hf).imp_right ?_⟩
      intro e
      rw [e]
      obtain ⟨k, k1, k2⟩ := outside (t := countAlarm { s with agenda := { s.agenda with rollaways := rest } }) (l := [])
        (rs := rest) hf ha (by simp [Agenda.outside, countAlarm, he, hp, hy, hb])
      refine ⟨k, ?_⟩
      rw [beforeExits, beforeExits, k1, k2, he, hr, List.length_cons]
      show _ + (if s.agenda.exits then 0 else 3) < _
      omega
    | nil =>
      by_cases hx : s.agenda.exits = true
      · exact ⟨_, nextReport_exits he hr hp hb hy hx, .inl (testExits_failing hf)⟩
      · have hpl := ha.resolve_left hx
        have hn : nextReport s
            = some (planEvent s.agenda.force { s with agenda := { s.agenda with plan := false, force := false } }) := by
          simp [nextReport, he, hr, hp, hb, hy, hx, hpl]
        obtain ⟨k1, k2, k3⟩ :=
          agenda_planEvent s.agenda.force { s with agenda := { s.agenda with plan := false, force := false } }
        refine ⟨_, hn, .inr ⟨failing_planEvent _ hf hp hy hb, ?_⟩⟩
        rw [beforeExits, beforeExits, k3, if_pos rfl, if_neg hx, he, hr]
        simp only [he, hr, List.length_nil] at k1 k2 ⊢
        omega

/-- Bringing up to date adds no report from outside the event. -/
theorem Failing.sync {s : State} (h : Failing s) :
    Failing (Machine.sync s) ∧ beforeExits (Machine.sync s).agenda ≤ beforeExits s.agenda := by
  have hx (e : s.agenda.exits = true) : (Machine.sync s).agenda.exits = true := by
    simp [Machine.sync, refreshTable, refreshValidity, e]
  have hl (e : s.agenda.plan = true) : (Machine.sync s).agenda.plan = true := by
    simp [Machine.sync, refreshTable, refreshValidity, e]
  refine ⟨⟨kept_failureRaised.nearly _ _ h.raised (quietly_sync s).toNearly, h.peerAlarms, h.yields, h.abortEvent,
    h.asks.imp hx hl⟩, ?_⟩
  show s.agenda.ends.length + s.agenda.rollaways.length + (if (Machine.sync s).agenda.exits then 0 else 3)
    ≤ s.agenda.ends.length + s.agenda.rollaways.length + (if s.agenda.exits then 0 else 3)
  by_cases e : s.agenda.exits = true
  · rw [hx e, e]
  · rw [if_neg e]
    split <;> omega

/-- A station with a failure raised, with reports enough to come, is FAILED at the end of the event. -/
theorem Failing.drain {s : State} (h : Failing s) {n : Nat} (hn : beforeExits s.agenda < n) :
    (Machine.drain n s).stc.state = .failed := by
  induction n generalizing s with
  | zero => omega
  | succ n ih =>
    obtain ⟨hs, hb⟩ := h.sync
    obtain ⟨t, ht, hr⟩ := hs.next
    rw [Machine.drain, ht]
    rcases hr with hr | ⟨hr, hlt⟩
    · exact kept_failed.run hr (drain_acts n t)
    · exact ih hr (by omega)

theorem Failing.settle {s : State} (h : Failing s) (hn : beforeExits s.agenda < 64) :
    (Machine.settle s).stc.state = .failed := h.drain (n := 64) hn

end Sys2Proof.Machine
end

section
/-! PROOFS. The pressure samples within and outside the raw range (R69, R70, R84), and a chamber sample of a station that does not
submit: the step evaluation and the limit timer (R64, R80, R81). -/

namespace Sys2Proof.Machine

set_option Elab.async false

theorem pressureRawBad_iff (raw : BitVec 12) : pressureRawBad raw = true ↔ raw.toNat < 40 ∨ 4055 < raw.toNat := by
  simp [pressureRawBad]

theorem pressureRawBad_false {raw : BitVec 12} (hlo : 40 ≤ raw.toNat) (hhi : raw.toNat ≤ 4055) : pressureRawBad raw = false := by
  rw [Bool.eq_false_iff, Ne, pressureRawBad_iff]
  omega

theorem exec_chamberPressureSample_bad {raw : BitVec 12} (h : raw.toNat < 40 ∨ 4055 < raw.toNat) (s : State) :
    exec (.chamberPressureSample raw) s = .next (settle (askPlan (raiseFault .pressureSensor (faultStep s)))) := by
  show Host.Outcome.next (settle (if pressureRawBad raw = true then _ else _)) = _
  rw [if_pos ((pressureRawBad_iff raw).2 h)]

/-- A pressure taken stays through the evaluation by MOD. -/
theorem pMeas_takePressure (p : Nat) (s : State) : (takePressure p s).mod.pMeas = p :=
  congrArg (fun x => x.sensed.pMeas)
    (((steady_evaluated _).trans (steady_planEvent _ _)).trans
      (steady_sync (runLimitTimer { s with mod := { s.mod with pMeas := p } })))

/-- The fault of a step adds its end to the agenda, where a step was in flight, and no flag (R84). -/
theorem faultStep_eq (s : State) :
    ∃ l : List StepEnd, l.length ≤ 1
      ∧ faultStep s = { s with mod := s.mod.faultStep.mod, agenda := { s.agenda with ends := s.agenda.ends ++ l } } := by
  refine ⟨s.mod.faultStep.ended.toList, by cases s.mod.faultStep.ended <;> simp, ?_⟩
  unfold faultStep takeModResult Mod.faultStep
  split <;> simp [InFlight.ending]

/-- The fault of a chamber sample that is no pressure leaves at most one end of a step before the test of the exits. -/
theorem failing_badPressure {s : State} (h : s.agenda = {}) :
    Failing (askPlan (raiseFault .pressureSensor (faultStep s)))
      ∧ beforeExits (askPlan (raiseFault .pressureSensor (faultStep s))).agenda < 64 := by
  obtain ⟨l, hl, hf⟩ := faultStep_eq s
  rw [hf]
  refine ⟨⟨rfl, ?_, ?_, ?_, .inr rfl⟩, ?_⟩
  · exact congrArg Agenda.peerAlarms h
  · exact congrArg Agenda.yields h
  · exact congrArg Agenda.abortEvent h
  · show (s.agenda.ends ++ l).length + s.agenda.rollaways.length + (if _ then 0 else 3) < 64
    rw [h]
    simp only [List.nil_append, List.length_nil]
    split <;> omega

theorem chamberPressureSample_bad {raw : BitVec 12} (h : raw.toNat < 40 ∨ 4055 < raw.toNat) (s : State) :
    ∃ t, exec (.chamberPressureSample raw) s = .next t ∧ t.mod.pMeas = s.mod.pMeas ∧ hasFault t .pressureSensor = true
      ∧ (Settled s → t.stc.state = .failed) := by
  refine ⟨_, exec_chamberPressureSample_bad h s, ?_, ?_, fun hs => ?_⟩
  · rw [settle_pMeas]
    exact congrArg (fun x => x.sensed.pMeas) (steady_faultStep s)
  · exact (kept_flag (f := .pressureSensor) rfl).settle (hasFault_putFault_self .pressureSensor true (faultStep s))
  · obtain ⟨hf, hn⟩ := failing_badPressure hs.1
    exact hf.settle hn

theorem supplySample_good {raw : BitVec 12} (h : pressureRawBad raw = false) (s : State) :
    ∃ t, exec (.supplySample raw) s = .next t ∧ t.mod.pSup = pressureOfRaw raw := by
  refine ⟨_, rfl, ?_⟩
  rw [settle_pSup, if_neg (by simp [h])]
  show (if pressureRawBad raw = true then _ else _) = _
  rw [if_neg (by simp [h])]

theorem supplySample_bad {raw : BitVec 12} (h : pressureRawBad raw = true) (s : State) :
    ∃ t, exec (.supplySample raw) s = .next t ∧ t.mod.pSup = s.mod.pSup ∧ hasFault t .supplySensor = true := by
  refine ⟨_, rfl, ?_, ?_⟩
  · rw [settle_pSup, if_pos h]
    show (if pressureRawBad raw = true then _ else _) = _
    rw [if_pos h]
  · dsimp only
    rw [if_pos h]
    exact (kept_flag (f := .supplySensor) rfl).settle (hasFault_putFault_self .supplySensor true _)

end Sys2Proof.Machine
end

section
/-! PROOFS. A station in ALARM, or in SERVICE under TEST conditions, through an event: it stays, it submits nothing, and no report
writes MOD or runs the limit timer (R18, R20, R66). -/

namespace Sys2Proof.Machine

set_option Elab.async false

/-! ### A station that no exit leaves -/

/-- A station in ALARM, or in SERVICE under INHIBIT on a vehicle that stands, with no failure raised: no exit applies to it. -/
structure StandsFast (s : State) : Prop where
  state : s.stc.state = .alarm
    ∨ (s.stc.state = .service ∧ s.suc.inhibit = true ∧ s.ptb.vehicleStationary = true ∧ rawOf s = true)
  failure : failureRaised s = false

theorem Settled.standsFast {s : State} (h : Settled s) (hf : failureRaised s = false)
    (hs : s.stc.state = .alarm ∨ (s.stc.state = .service ∧ s.suc.inhibit = true ∧ s.ptb.vehicleStationary = true)) :
    StandsFast s :=
  ⟨hs.imp_right fun ⟨h1, h2, h3⟩ => ⟨h1, h2, h3, h.raw h3⟩, hf⟩

section

variable {s t : State} (h : StandsFast s)

include h

theorem StandsFast.alarm_or_service : s.stc.state = .alarm ∨ s.stc.state = .service := h.state.imp_right And.left

theorem StandsFast.ne {x : StationState} (h1 : x ≠ .alarm) (h2 : x ≠ .service) : s.stc.state ≠ x := by
  rintro rfl
  exact h.alarm_or_service.elim h1 h2

theorem StandsFast.not_alarmable : s.stc.state.alarmable = false := by
  rcases h.alarm_or_service with hs | hs <;> rw [hs] <;> rfl

theorem StandsFast.no_exit : exitMove s = none := by
  rcases h.state with hs | ⟨hs, hi, -⟩ <;> simp [exitMove, stateExit, h.failure, hs, StationState.alarmable]
  exact hi

theorem StandsFast.not_exchanging : exchanging s = false := by
  simp [exchanging, h.ne (x := .leaving) (by simp) (by simp)]

theorem StandsFast.not_releasing : releaseInProgress s = false := by
  simp [releaseInProgress, h.ne (x := .releasing) (by simp) (by simp)]

theorem StandsFast.not_reholds : reholds s = false := by
  simp [reholds, h.ne (x := .free) (by simp) (by simp)]

theorem StandsFast.no_hop : ¬ Hop s t := by
  have hm := h.no_exit
  intro r
  cases r with
  | goto _ he | peerShows _ he | exchange he | withdraw he => simp [hm] at he
  | peerAlarm _ _ _ ha | rollaway _ _ _ ha => simp [h.not_alarmable] at ha
  | yield _ _ _ hy => simp [h.not_exchanging] at hy
  | unparked _ _ _ _ hx | rampOver hx _ _ | released hx _ _ | reheldAtOnce hx _ _ _ =>
    exact h.ne (by simp) (by simp) hx
  | reheld _ hr => simp [h.not_reholds] at hr
  | aborted _ hr _ | abortedByPeer _ hr => simp [h.not_releasing] at hr

theorem StandsFast.nearly (q : Nearly s t) : StandsFast t where
  state := by
    rw [state_of_standing q.standing, inhibit_of_steady q.steady, rawOf_of_steady q.steady]
    exact h.state.imp_right fun ⟨h1, h2, h3, h4⟩ => ⟨h1, h2, q.stays h3 h4, h4⟩
  failure := (failureRaised_of_nearly q).trans h.failure

theorem StandsFast.minor (m : Minor s t) : StandsFast t := by
  have e : t.ptb = s.ptb ∧ failureRaised t = failureRaised s := by
    cases m with
    | deferAsk => unfold deferAsk; split <;> exact ⟨rfl, rfl⟩
    | testUnpark => unfold testUnpark; dsimp only; (repeat' split) <;> exact ⟨rfl, rfl⟩
    | _ => exact ⟨rfl, rfl⟩
  refine ⟨?_, e.2.trans h.failure⟩
  rw [state_minor m, inhibit_of_steady (steady_minor m), rawOf_of_steady (steady_minor m), e.1]
  exact h.state

theorem StandsFast.followLift : Machine.followLift s = s :=
  followLift_of_state (h.ne (by simp) (by simp)) (h.ne (by simp) (by simp))

end

theorem kept_standsFast : Kept StandsFast where
  nearly := fun _ _ h q => h.nearly q
  followLift := fun s h => by rw [h.followLift]; exact h
  hop := fun _ _ h r => absurd r h.no_hop
  minor := fun _ _ h m => h.minor m

/-! ### Its reports -/

/-- What the events of such a station leave as it was: the state and MOD; and the limit timer, where no step has ended. -/
structure Unstirred (s t : State) : Prop where
  state : t.stc.state = s.stc.state
  mod : t.mod = s.mod
  ends : s.agenda.ends = [] → t.agenda.ends = []
  limitTimer : s.agenda.ends = [] → t.hpl.limitTimer = s.hpl.limitTimer

theorem Unstirred.trans {s t u : State} (h : Unstirred s t) (k : Unstirred t u) : Unstirred s u :=
  ⟨k.state.trans h.state, k.mod.trans h.mod, fun e => k.ends (h.ends e),
    fun e => (k.limitTimer (h.ends e)).trans (h.limitTimer e)⟩

/-- HPL submits in HOLDING and SECURED alone (R66). -/
theorem submissionDecision_of_ne {s : State} (h1 : s.stc.state ≠ .holding) (h2 : s.stc.state ≠ .secured) (b : Bool) :
    submissionDecision b s = s := by
  unfold submissionDecision
  rw [if_neg (by simp [h1, h2])]

theorem unstirred_planEvent {s : State} (h1 : s.stc.state ≠ .holding) (h2 : s.stc.state ≠ .secured) (b : Bool) :
    Unstirred s (planEvent b s) := by
  obtain ⟨v, hv, hk, hs, he⟩ := planEvent_decides b s
  have e : planEvent b s = v := hv.trans (submissionDecision_of_ne (hs ▸ h1) (hs ▸ h2) b)
  rw [e]
  exact ⟨hs, congrArg Kernel.mod hk, fun h => he.trans h, fun _ => (congrArg (fun k => k.hpl.limitTimer) hk).trans
    (congrArg PlanKept.limitTimer (kept_computedPlan s))⟩

theorem unstirred_testUnpark {s : State} (h : StandsFast s) : Unstirred s (testUnpark s) := by
  rw [testUnpark, if_neg (h.ne (by simp) (by simp))]
  exact ⟨rfl, rfl, id, fun _ => rfl⟩

theorem unstirred_deferAsk (s : State) : Unstirred s (deferAsk s) := by
  unfold deferAsk
  split <;> exact ⟨rfl, rfl, id, fun _ => rfl⟩

/-- The TEST join of SERVICE stays while the vehicle stands (R18). -/
theorem testService_of_standsFast {s : State} (h : StandsFast s) : testService s = s := by
  unfold testService
  rcases h.state with hs | ⟨-, -, hv, -⟩
  · rw [if_neg (by simp [hs])]
  · rw [if_neg (by simp [hv])]

theorem unstirred_testExits {s : State} (h : StandsFast s) : Unstirred s (testExits s) := by
  have h1 : StandsFast (tendHandoff s) := h.minor .tendHandoff
  have h2 : StandsFast (deferAsk (tendHandoff s)) := h1.minor .deferAsk
  have e : testExits s = testService (testUnpark (deferAsk (tendHandoff s))) := testExits_none h.followLift h1.no_exit
  rw [e, testService_of_standsFast (h2.minor .testUnpark)]
  have tended : Unstirred s (tendHandoff s) := ⟨rfl, rfl, id, fun _ => rfl⟩
  exact (tended.trans (unstirred_deferAsk _)).trans (unstirred_testUnpark h2)

theorem unstirred_reformAnswers (s : State) : Unstirred s (reformAnswers s) := by
  have hk := kernel_reformAnswers s
  exact ⟨state_of_standing (quietly_reformAnswers s).standing, congrArg Kernel.mod hk,
    fun h => (congrArg Agenda.ends (agenda_reformAnswers s).1).trans h, fun _ => congrArg (fun k => k.hpl.limitTimer) hk⟩

theorem StandsFast.report {s t : State} (h : StandsFast s) (r : Report s t) : Unstirred s t := by
  have pop (a : Agenda) : StandsFast { s with agenda := a } := ⟨h.state, h.failure⟩
  have unchanged {u : State} (a : Agenda) (ha : a.ends = s.agenda.ends) (hu : u = { s with agenda := a }) : Unstirred s u := by
    rw [hu]
    exact ⟨rfl, rfl, fun e => ha.trans e, fun _ => rfl⟩
  have after {u : State} (a : Agenda) (ha : a.ends = s.agenda.ends) (hu : Unstirred { s with agenda := a } u) :
      Unstirred s u := (unchanged a ha rfl).trans hu
  cases r with
  | stepEnd e rest he =>
    have hl : (limitedByEnd e { s with agenda := { s.agenda with ends := rest } }).mod = s.mod
        ∧ (limitedByEnd e { s with agenda := { s.agenda with ends := rest } }).stc.state = s.stc.state := by
      unfold limitedByEnd setLimited clearLimited callStatusIf
      dsimp only
      (repeat' split) <;> exact ⟨rfl, rfl⟩
    have hne : s.stc.state ≠ .secured := h.ne (by simp) (by simp)
    have ht : takeEnd e { s with agenda := { s.agenda with ends := rest } }
        = noteEnd e { s with agenda := { s.agenda with ends := rest } } := by
      rw [takeEnd_eq, takeUnparkEnd, if_neg]
      show ¬ ((decide ((limitedByEnd e { s with agenda := { s.agenda with ends := rest } }).stc.state = .secured)
        && _ && _ && _) = true)
      simp [hl.2, hne]
    rw [ht]
    exact ⟨hl.2, hl.1, fun h0 => by simp [he] at h0, fun h0 => by simp [he] at h0⟩
  | rollaway c rest hc =>
    simp only [takeOwnRollaway, takeRollaway, h.not_alarmable]
    exact ⟨rfl, rfl, id, fun _ => rfl⟩
  | peerAlarm n rest hn =>
    simp only [takePeerAlarm, takeAlarmCause, h.not_alarmable]
    exact ⟨rfl, rfl, id, fun _ => rfl⟩
  | abortEvent ha =>
    refine unchanged { s.agenda with abortEvent := false } rfl ?_
    rw [takeAbortEvent, if_neg (by simp [(pop _).not_releasing]), if_neg (by simp [(pop _).not_reholds])]
  | yield m rest hm =>
    refine unchanged { s.agenda with yields := rest } rfl ?_
    rw [testYield, if_neg (by simp [(pop _).not_exchanging])]
  | exits hx => exact after { s.agenda with exits := false } rfl (unstirred_testExits (pop _))
  | plan hp =>
    have planned (a : Agenda) (b : Bool) : Unstirred { s with agenda := a } (planEvent b { s with agenda := a }) :=
      unstirred_planEvent ((pop a).ne (by simp) (by simp)) ((pop a).ne (by simp) (by simp)) b
    exact after { s.agenda with plan := false, force := false } rfl (planned _ _)
  | abortTest hp =>
    refine unchanged { s.agenda with abortTest := false } rfl ?_
    rw [testAbort, if_neg (by simp [(pop _).not_releasing])]
  | turn hp =>
    refine unchanged { s.agenda with turn := false } rfl ?_
    rw [testTurn, if_neg (by simp [h.ne (x := .releasing) (by simp) (by simp)])]
  | ramp hp =>
    refine unchanged { s.agenda with ramp := false } rfl ?_
    rw [testRamp, if_neg (by simp [h.ne (x := .leaving) (by simp) (by simp)]),
      if_neg (by simp [h.ne (x := .releasing) (by simp) (by simp)])]
  | success hp =>
    refine unchanged { s.agenda with success := false } rfl ?_
    rw [testSuccess, if_neg (by simp [(pop _).not_exchanging])]
  | answers hp => exact after { s.agenda with answers := false } rfl (unstirred_reformAnswers _)

theorem StandsFast.drain (n : Nat) {s : State} (h : StandsFast s) : Unstirred s (drain n s) := by
  refine (drain_induction (P := fun t => StandsFast t ∧ Unstirred s t) ?_ ?_ n ⟨h, rfl, rfl, id, fun _ => rfl⟩).2
  · rintro t ⟨h1, h2⟩
    exact ⟨h1.nearly (quietly_sync t).toNearly, h2.trans ⟨rfl, rfl, id, fun _ => rfl⟩⟩
  · rintro t u ⟨h1, h2⟩ r
    exact ⟨kept_standsFast.run h1 (report_acts r), h2.trans (h1.report r)⟩

end Sys2Proof.Machine
end

section
/-! PROOFS. The pressure samples settled: within and outside the raw range, and at a station that submits nothing (R64, R69, R70,
R80, R81). -/

namespace Sys2Proof.Machine

set_option Elab.async false

theorem stepUnreached_takeModResult (r : ModResult) (s : State) :
    hasFault (takeModResult r s) .stepUnreached
      = (hasFault s .stepUnreached || decide (r.ended.map StepEnd.outcome = some .unreached)) := by
  unfold takeModResult
  dsimp only
  split <;> split <;> simp_all [hasFault, raiseFault, putFault, FaultSet.get, FaultSet.put]

theorem standsFast_takeModResult (r : ModResult) {s : State} (h : StandsFast s) : StandsFast (takeModResult r s) := by
  unfold takeModResult
  dsimp only
  split <;> split <;> exact ⟨h.state, h.failure⟩

/-- A chamber pressure at such a station: evaluated by MOD as it stands with the pressure, the limit timer run before (R64, R80). -/
theorem StandsFast.takePressure {s : State} (h : StandsFast s) (hy : Synced s) (p : Nat) {m : Mod}
    (hm : m = { s.mod with pMeas := p }) :
    StandsFast (Machine.takePressure p s) ∧ (Machine.takePressure p s).stc.state = s.stc.state
      ∧ (Machine.takePressure p s).mod = m.evaluate.mod
      ∧ hasFault (Machine.takePressure p s) .stepUnreached
        = (hasFault s .stepUnreached || decide (m.evaluate.ended.map StepEnd.outcome = some .unreached))
      ∧ (s.agenda.ends = [] → m.evaluate.ended = none → (Machine.takePressure p s).agenda.ends = []
        ∧ (Machine.takePressure p s).hpl.limitTimer = timerWhile (limitCondition m) 500 s.hpl.limitTimer) := by
  have h1 : StandsFast (sampled p s) := ⟨h.state, h.failure⟩
  have h2 : StandsFast (planEvent false (sampled p s)) := h1.nearly (quietly_planEvent false _).toNearly
  have q := unstirred_planEvent (h1.ne (by simp) (by simp)) (h1.ne (by simp) (by simp)) false
  have hmod : (planEvent false (sampled p s)).mod = m := q.mod.trans hm.symm
  have hflag : hasFault (planEvent false (sampled p s)) .stepUnreached = hasFault s .stepUnreached :=
    (quietly_planEvent false (sampled p s)).sticky .stepUnreached rfl (by simp)
  have e := takePressure_eq (p := p) hy
  rw [hmod] at e
  rw [e]
  refine ⟨⟨(standsFast_takeModResult m.evaluate h2).state, (standsFast_takeModResult m.evaluate h2).failure⟩,
    (takeModResult_state _ _).trans q.state, takeModResult_mod _ _, ?_, fun he hn => ⟨?_, ?_⟩⟩
  · rw [← hflag]
    exact stepUnreached_takeModResult _ _
  · refine (ends_takeModResult _ _).trans ?_
    rw [hn, q.ends he]
    rfl
  · refine (congrArg Plan.limitTimer (takeModResult_hpl _ _)).trans ((q.limitTimer he).trans ?_)
    rw [hm]
    rfl

/-- The limit timer, from the conditions before and after the evaluation (R64). -/
theorem limitTimer_twice {m n : Mod} {f g : InFlight} (hf : m.inFlight = some f) (hg : n.inFlight = some g)
    (hp : n.pMeas = m.pMeas) (t : Timer) :
    timerWhile (limitCondition n) 500 (timerWhile (limitCondition m) 500 t)
      = (if n.applyCmd = true ∧ m.pMeas + 30 < g.intermediate then
          (if m.applyCmd = true ∧ m.pMeas + 30 < f.intermediate then some (t.getD 500) else some 500)
        else none) := by
  have hc : limitCondition m = decide (m.applyCmd = true ∧ m.pMeas + 30 < f.intermediate) := by
    simp [limitCondition, hf]
  have hd : limitCondition n = decide (n.applyCmd = true ∧ m.pMeas + 30 < g.intermediate) := by
    simp [limitCondition, hg, hp]
  rw [hc, hd]
  have started : timerWhile true 500 (some (t.getD 500)) = some (t.getD 500) := rfl
  have running : timerWhile true 500 t = some (t.getD 500) := by cases t <;> rfl
  by_cases h1 : n.applyCmd = true ∧ m.pMeas + 30 < g.intermediate
  · rw [if_pos h1, decide_eq_true h1]
    by_cases h2 : m.applyCmd = true ∧ m.pMeas + 30 < f.intermediate
    · rw [if_pos h2, decide_eq_true h2, running, started]
    · rw [if_neg h2, decide_eq_false h2]
      rfl
  · rw [if_neg h1, decide_eq_false h1]
    rfl

theorem chamberPressureSample_stands {raw : BitVec 12} {s : State} {m : Mod} (hlo : 40 ≤ raw.toNat) (hhi : raw.toNat ≤ 4055)
    (h : Settled s) (hs : StandsFast s) (hm : m = { s.mod with pMeas := pressureOfRaw raw }) :
    ∃ t, exec (.chamberPressureSample raw) s = .next t ∧ t.stc.state = s.stc.state ∧ t.mod = m.evaluate.mod
      ∧ hasFault t .stepUnreached
          = (hasFault s .stepUnreached || decide (m.evaluate.ended.map StepEnd.outcome = some .unreached))
      ∧ (m.evaluate.ended = none →
          t.hpl.limitTimer = timerWhile (limitCondition m.evaluate.mod) 500 (timerWhile (limitCondition m) 500 s.hpl.limitTimer)) := by
  obtain ⟨h1, h2, h3, h4, h5⟩ := hs.takePressure h.agree.toSynced (pressureOfRaw raw) hm
  have q := h1.drain reportLimit
  refine ⟨_, exec_chamberPressureSample hlo hhi, q.state.trans h2, q.mod.trans h3, ?_, fun hn => ?_⟩
  · exact (kept_flag_eq (f := .stepUnreached) rfl (by simp) _).settle h4
  · obtain ⟨k1, k2⟩ := h5 (congrArg Agenda.ends h.1) hn
    show timerWhile (limitCondition (drain reportLimit _).mod) 500 (drain reportLimit _).hpl.limitTimer = _
    rw [q.mod, q.limitTimer k1, h3, k2]

/-- Settles O30: the raw range decides each sample; a chamber pressure out of it leads to FAILED by way of the test of the exits that
its fault calls for; and a station that stands fast is written by the evaluation alone, its limit timer run before and after. -/
theorem pressureSamples : Obligations.PressureSamples := by
  unfold Obligations.PressureSamples
  refine ⟨fun raw s => ⟨fun hlo hhi => ⟨⟨_, exec_chamberPressureSample hlo hhi, ?_⟩, ?_⟩, fun h => ⟨?_, ?_⟩⟩, ?_⟩
  · rw [settle_pMeas, pMeas_takePressure]
    rfl
  · exact supplySample_good (pressureRawBad_false hlo hhi) s
  · exact chamberPressureSample_bad h s
  · exact supplySample_bad ((pressureRawBad_iff raw).2 h) s
  · intro raw s m hlo hhi h hf hs hm
    obtain ⟨t, ht, h1, h2, h3, h4⟩ := chamberPressureSample_stands hlo hhi h (h.standsFast hf hs) hm
    refine ⟨t, ht, h1, h2, h3, fun f g hf hg hn => ?_⟩
    rw [h4 hn, limitTimer_twice hf hg (congrArg Sensed.pMeas (Mod.sensed_evaluate m))]

end Sys2Proof.Machine
end

section
/-! PROOFS. The submission of a target (R66, R76): at the end of the decrease wait, and at a computation. -/

namespace Sys2Proof.Machine

set_option Elab.async false

/-! ### A PLANNER step appended (R76) -/

/-- A PLANNER step within P_top is placed as it is (R75). -/
theorem append_planner_eq {m : Mod} {p : Nat} {st : Step} (hj : m.join = .planner) (ht : st.target ≤ p) :
    m.append p .planner [st] = m.placePlanner st := by
  have hs : m.join.source = some .planner := by rw [hj]; rfl
  have hc : clampStep p st = st := if_neg (by omega)
  unfold Mod.append
  rw [if_pos hs]
  show m.placePlanner (clampStep p st) = m.placePlanner st
  rw [hc]

/-- With no step in flight, or a lower PLANNER step, the new step begins (R76). -/
theorem placePlanner_begins {m : Mod} {st : Step}
    (h : ∀ f, m.inFlight = some f → f.step.source = .planner ∧ f.step.target < st.target) :
    (m.placePlanner st).mod.inFlight.map InFlight.step = some st ∧ (m.placePlanner st).mod.queue = [] := by
  unfold Mod.placePlanner
  split
  · exact ⟨rfl, rfl⟩
  · rw [if_pos (by simpa using h _ ‹_›)]
    exact ⟨rfl, rfl⟩

/-- Behind any other step in flight it waits alone (R76). -/
theorem placePlanner_waits {m : Mod} {st : Step} {f : InFlight} (hf : m.inFlight = some f)
    (h : ¬ (f.step.source = .planner ∧ f.step.target < st.target)) :
    m.placePlanner st = { mod := { m with queue := [st] } } := by
  unfold Mod.placePlanner
  rw [hf]
  exact if_neg (by simpa using h)

theorem placePlanner_ends {m : Mod} {st : Step}
    (h : ∀ f, m.inFlight = some f → ¬ (f.step.source = .planner ∧ f.step.target < st.target)) :
    (m.placePlanner st).ended = none ∧ (m.placePlanner st).overrun = false := by
  cases hf : m.inFlight with
  | none =>
    unfold Mod.placePlanner
    rw [hf]
    exact ⟨rfl, rfl⟩
  | some f =>
    rw [placePlanner_waits hf (h f hf)]
    exact ⟨rfl, rfl⟩

/-! ### The end of the decrease wait -/

/-- Answering the leavers writes the hand-off and its slot alone (R119). -/
theorem reformAnswers_writes (s : State) : ∃ h l, reformAnswers s = { s with hoe := h, lnk := l } := by
  have answer (u : State) (n : StationNo) : ∃ h l, reformAnswer u n = { u with hoe := h, lnk := l } := by
    unfold reformAnswer
    (repeat' split) <;> exact ⟨_, _, rfl⟩
  have answers (l : List StationNo) (u : State) : ∃ h k, l.foldl reformAnswer u = { u with hoe := h, lnk := k } := by
    induction l generalizing u with
    | nil => exact ⟨_, _, rfl⟩
    | cons n l ih =>
      obtain ⟨h, k, e⟩ := answer u n
      obtain ⟨h', k', e'⟩ := ih (reformAnswer u n)
      exact ⟨h', k', by rw [List.foldl_cons, e', e]⟩
  exact answers _ s

/-- A settled station whose event asks for the answers alone ends it with its plan and its steps as they are. -/
theorem settle_answers {s : State} (h : Synced s) (ha : s.agenda = {}) :
    ∃ z, settle (askAnswers s) = levels z ∧ kernel z = kernel s := by
  have hy : Synced (askAnswers s) := by
    obtain ⟨h1, h2, h3, h4, h5⟩ := h
    exact ⟨h1, h2, h3, h4, h5⟩
  have hn : nextReport (askAnswers s) = some (reformAnswers s) := by
    have hs : { askAnswers s with agenda := { (askAnswers s).agenda with answers := false } } = s := by
      show { s with agenda := { s.agenda with answers := false } } = s
      rw [ha]
      exact congrArg (fun g : Agenda => { s with agenda := g }) ha.symm
    rw [← congrArg reformAnswers hs]
    simp [nextReport, askAnswers, ha]
  obtain ⟨o, l, he⟩ := reformAnswers_writes s
  have hz : Synced (reformAnswers s) := by
    obtain ⟨h1, h2, h3, h4, h5⟩ := h
    rw [he]
    exact ⟨h1, h2, h3, h4, h5⟩
  have hd : drain reportLimit (askAnswers s) = reformAnswers s := by
    show drain (62 + 1 + 1) (askAnswers s) = _
    rw [drain, hy.sync, hn]
    dsimp only
    rw [drain, hz.sync, nextReport_none ((agenda_reformAnswers s).1.trans ha)]
  exact ⟨_, congrArg levels hd, kernel_reformAnswers s⟩

/-- The wait over, with no fall left of it (R66). -/
theorem decreaseWait_lapses {s : State} {w : DecreaseWait} (h : Settled s) (hw : s.hpl.decreaseWait = some w)
    (hf : s.hpl.lastSubmitted < s.hpl.pT + 40) :
    ∃ t, exec .decreaseWaitExpiry s = .next t ∧ t.hpl.lastSubmitted = s.hpl.lastSubmitted ∧ t.hpl.decreaseWait = none
      ∧ t.mod = s.mod := by
  have ho : decreaseWaitOver s = { s with hpl := { s.hpl with decreaseWait := none } } := by
    have hn : targetFalls s.hpl = false := decide_eq_false (by omega)
    unfold decreaseWaitOver
    rw [hn, Bool.and_false]
    rfl
  have hy : Synced { s with hpl := { s.hpl with decreaseWait := none } } := by
    obtain ⟨h1, h2, h3, h4, h5⟩ := h.agree.toSynced
    exact ⟨h1, h2, h3, h4, h5⟩
  obtain ⟨z, hz, hk⟩ := settle_answers hy h.1
  have hx : exec .decreaseWaitExpiry s = .next (levels z) := by
    show Host.Outcome.next (if s.hpl.decreaseWait.isSome = true then settle (askAnswers (decreaseWaitOver s)) else s) = _
    rw [if_pos (by rw [hw]; rfl), ho, hz]
  exact ⟨_, hx, congrArg (fun k => k.hpl.lastSubmitted) hk, congrArg (fun k => k.hpl.decreaseWait) hk, congrArg Kernel.mod hk⟩

/-- The wait over, with the target still 40 kPa or more below: submitted, and placed behind no lower PLANNER step (R66, R76). -/
theorem decreaseWait_submits {s : State} {w : DecreaseWait} (h : Settled s) (hw : s.hpl.decreaseWait = some w)
    (hs : s.stc.state = .holding ∨ s.stc.state = .secured) (hj : s.mod.join = .planner) {st : Step}
    (hst : st = { target := s.hpl.pT, rate := 0, source := .planner, clamped := s.hpl.clamped, unpark := s.stc.unparkMark })
    (hf : s.hpl.pT + 40 ≤ s.hpl.lastSubmitted) (hp : s.hpl.pT ≤ s.hpl.pTop)
    (hb : ∀ f, s.mod.inFlight = some f → s.hpl.pT ≤ f.step.target) :
    ∃ t, exec .decreaseWaitExpiry s = .next t ∧ t.hpl.lastSubmitted = s.hpl.pT ∧ t.hpl.decreaseWait = none
      ∧ t.mod = (s.mod.placePlanner st).mod := by
  have htarget : st.target = s.hpl.pT := by rw [hst]
  obtain ⟨he, hv⟩ := placePlanner_ends (m := s.mod) (st := st) fun f hx hlt => by
    have := hb f hx
    omega
  have ho : decreaseWaitOver s
      = { s with hpl := { s.hpl with lastSubmitted := s.hpl.pT, decreaseWait := none }, mod := (s.mod.placePlanner st).mod } := by
    have hfalls : targetFalls s.hpl = true := decide_eq_true hf
    unfold decreaseWaitOver
    rw [hfalls, if_pos (by simpa using hs)]
    show takeModResult (s.mod.append s.hpl.pTop .planner [_])
      { s with hpl := { s.hpl with lastSubmitted := s.hpl.pT, decreaseWait := none } } = _
    rw [← hst, append_planner_eq hj (by omega)]
    unfold takeModResult
    simp [he, hv]
  have hy : Synced { s with
      hpl := { s.hpl with lastSubmitted := s.hpl.pT, decreaseWait := none }, mod := (s.mod.placePlanner st).mod } := by
    have hc : (s.mod.placePlanner st).mod.springsCounted = s.mod.springsCounted :=
      congrArg Outfit.springsCounted (Mod.outfit_placePlanner st s.mod)
    obtain ⟨h1, h2, h3, h4, h5⟩ := h.agree.toSynced
    refine ⟨h1, h2, h3.trans ?_, h4, h5⟩
    unfold ownEntry ownFlags
    rw [hc]
    rfl
  obtain ⟨z, hz, hk⟩ := settle_answers hy h.1
  have hx : exec .decreaseWaitExpiry s = .next (levels z) := by
    show Host.Outcome.next (if s.hpl.decreaseWait.isSome = true then settle (askAnswers (decreaseWaitOver s)) else s) = _
    rw [if_pos (by rw [hw]; rfl), ho, hz]
  exact ⟨_, hx, congrArg (fun k => k.hpl.lastSubmitted) hk, congrArg (fun k => k.hpl.decreaseWait) hk, congrArg Kernel.mod hk⟩

/-! ### A computation called for by a drum notice -/

/-- The drum record written, a plan event asked for: the station before its computation (R33). -/
def drummed (d : DrumRecord) (s : State) : State :=
  askPlan { withHeard s with ptb := { s.ptb with drum := d } }

/-- The station at its plan event, the event off the agenda. -/
def computing (s : State) : State := { s with agenda := { s.agenda with plan := false, force := false } }

theorem withDrum_changed {d : DrumRecord} {s : State} (h : d.rotating ≠ s.ptb.drum.rotating) :
    withDrum d (withHeard s) = settle (drummed d s) := by
  have hd : (d.rotating != (withHeard s).ptb.drum.rotating) = true := bne_iff_ne.2 h
  rw [withDrum, hd]
  rfl

/-- What a plan event of a hold leaves: the plan computed, and its submission decision (R52, R66). -/
theorem planEvent_hold {s : State} {a : AxleParams} (hs : s.stc.state = .holding ∨ s.stc.state = .secured)
    (ha : s.suc.axle = some a) :
    ∃ v, planEvent false s = submissionDecision false v ∧ v.stc.state = s.stc.state
      ∧ kernel v = { kernel s with hpl := fullPlan s a } := by
  obtain ⟨v, hv, hk, hvs, -⟩ := planEvent_decides false s
  refine ⟨v, hv, hvs, ?_⟩
  rw [hk, computedPlan_hold hs, ha]
  rfl

theorem planEvent_rises {s : State} {a : AxleParams} {x : Plan} {st : Step} (hs : s.stc.state = .holding ∨ s.stc.state = .secured)
    (ha : s.suc.axle = some a) (hx : x = fullPlan s a) (hj : s.mod.join = .planner)
    (hst : st = { target := x.pT, rate := 0, source := .planner, clamped := x.clamped, unpark := s.stc.unparkMark })
    (hr : s.hpl.lastSubmitted + 10 ≤ x.pT) :
    kernel (planEvent false s)
      = { kernel s with hpl := { x with lastSubmitted := x.pT, decreaseWait := none }, mod := (s.mod.placePlanner st).mod } := by
  obtain ⟨v, hv, hvs, hk⟩ := planEvent_hold hs ha
  rw [← hx] at hk
  have hp : v.hpl = x := congrArg Kernel.hpl hk
  have hm : v.mod = s.mod := congrArg Kernel.mod hk
  have hmark : v.stc.unparkMark = s.stc.unparkMark := congrArg Kernel.mark hk
  have hl : x.lastSubmitted = s.hpl.lastSubmitted := by
    rw [hx]
    exact congrArg PlanKept.lastSubmitted (kept_fullPlan s a)
  have hrise : targetRises v.hpl = true := by
    rw [hp]
    exact decide_eq_true (by omega)
  have hd : submissionDecision false v = submitTarget v := by
    unfold submissionDecision
    rw [if_pos (by rw [hvs]; simpa using hs), hrise]
    rfl
  have hle : st.target ≤ x.pTop := by
    rw [hst, hx]
    show (fullPlan s a).pT ≤ _
    rw [fullPlan_pT]
    exact Nat.min_le_right _ _
  rw [hv, hd, kernel_submitTarget, hk, hp, hm, hmark, ← hst, append_planner_eq hj hle]

theorem planEvent_waits {s : State} {a : AxleParams} {x : Plan} (hs : s.stc.state = .holding ∨ s.stc.state = .secured)
    (ha : s.suc.axle = some a) (hx : x = fullPlan s a) (hr : x.pT < s.hpl.lastSubmitted + 10) :
    kernel (planEvent false s) = { kernel s with hpl := { x with decreaseWait := waitAfter x } } := by
  obtain ⟨v, hv, hvs, hk⟩ := planEvent_hold hs ha
  rw [← hx] at hk
  have hp : v.hpl = x := congrArg Kernel.hpl hk
  have hl : x.lastSubmitted = s.hpl.lastSubmitted := by
    rw [hx]
    exact congrArg PlanKept.lastSubmitted (kept_fullPlan s a)
  have hrise : targetRises v.hpl = false := by
    rw [hp]
    exact decide_eq_false (by omega)
  have hd : submissionDecision false v = { v with hpl := { v.hpl with decreaseWait := waitAfter v.hpl } } := by
    unfold submissionDecision
    rw [if_pos (by rw [hvs]; simpa using hs), hrise]
    rfl
  rw [hv, hd, hp]
  show { kernel v with hpl := { x with decreaseWait := waitAfter x } } = _
  rw [hk]

theorem synced_drummed {s : State} (h : Synced s) (d : DrumRecord) : Synced (drummed d s) := by
  obtain ⟨h1, h2, h3, h4, h5⟩ := h
  exact ⟨h1, h2, h3, congrArg (fun q : Ptb => { q with drum := d }) h4, h5⟩

theorem undisturbed_drummed {s : State} (h : Undisturbed s) (d : DrumRecord) : Undisturbed (drummed d s) := by
  obtain ⟨h1, h2, h3, h4, h5, h6, h7, h8, h9⟩ := h
  exact ⟨h1, h2, h3, h4, h5, h6, h7, h8, h9⟩

/-- The link and the agenda are no input of the plan. -/
theorem fullPlan_apart (s : State) (l : Lnk) (g : Agenda) (a : AxleParams) :
    fullPlan { s with lnk := l, agenda := g } a = fullPlan s a := by
  have demand : demandStage { s with lnk := l, agenda := g } a = demandStage s a := rfl
  have capacity : capacityStage { s with lnk := l, agenda := g } a = capacityStage s a := rfl
  have share : shareStage { s with lnk := l, agenda := g } = shareStage s := rfl
  have target : targetStage { s with lnk := l, agenda := g } a = targetStage s a := rfl
  have achieved : achievedStage { s with lnk := l, agenda := g } a = achievedStage s a := rfl
  have spring : springStage { s with lnk := l, agenda := g } a = springStage s a := rfl
  rw [fullPlan, fullPlan, demand, capacity, share, target, achieved, spring]

theorem fullPlan_drummed (d : DrumRecord) (s : State) (a : AxleParams) :
    fullPlan (computing (drummed d s)) a = fullPlan { s with ptb := { s.ptb with drum := d } } a :=
  fullPlan_apart { s with ptb := { s.ptb with drum := d } } s.lnk.heard { s.agenda with plan := false, force := false } a

/-- Bringing up to date leaves the plan, the steps and the mark. -/
theorem kernel_sync (s : State) : kernel (sync s) = kernel s := rfl

/-- A plan event that a drum notice calls for is all that happens to the plan of a calm HOLDING station that stays there. -/
theorem drummed_plans {s : State} (h : Settled s) (hc : Calm s) (hs : s.stc.state = .holding) (hn : securing s = false)
    (hr : handoffReason s = false) (d : DrumRecord) :
    ∃ w, settle (drummed d s) = levels w ∧ kernel w = kernel (planEvent false (computing (drummed d s))) := by
  have hu := undisturbed_drummed (Undisturbed.of_calm hc h.1) d
  have hy := synced_drummed h.agree.toSynced d
  have hstate : (drummed d s).stc.state = .holding := hs
  obtain ⟨he, hyields, hexits, hforce⟩ : (drummed d s).agenda.ends = [] ∧ (drummed d s).agenda.yields = []
      ∧ (drummed d s).agenda.exits = false ∧ (drummed d s).agenda.force = false := by
    have ha : (drummed d s).agenda = { s.agenda with plan := true } := rfl
    rw [ha, h.1]
    exact ⟨rfl, rfl, rfl, rfl⟩
  obtain ⟨k, hk, -, hi⟩ := idles_planEvent hy hu (.holding hs hn hr) (.inl hs) he hyields hexits rfl
    (fun e => by simp [hstate] at e) 63
  refine ⟨drain (63 + 1) (drummed d s), rfl, ?_⟩
  rw [hi.kernel, hk, hforce, kernel_sync]
  rfl

/-- A calm HOLDING station that stays there hears a drum notice that changes drum rotating. -/
structure Redrums (p : List Byte) (s : State) : Prop where
  settled : Settled s
  calm : Calm s
  hears : listening s = true
  length : 3 ≤ p.length
  changed : (drumOf s.now p).rotating ≠ s.ptb.drum.rotating
  state : s.stc.state = .holding
  unsecured : securing s = false
  keeps : handoffReason s = false

section

variable {p : List Byte} {s : State} {a : AxleParams} {x : Plan} (h : Redrums p s) (ha : s.suc.axle = some a)
  (hx : x = fullPlan { s with ptb := { s.ptb with drum := drumOf s.now p } } a)

include h

theorem Redrums.exec :
    ∃ w, Machine.exec (.drumNotice 9 p) s = .next (levels w)
      ∧ kernel w = kernel (planEvent false (computing (drummed (drumOf s.now p) s))) := by
  have hears : Hears 9 s := ⟨h.hears, fun e => by
    have := (own s).isLt
    have : (9 : Origin).val = 9 := rfl
    omega⟩
  obtain ⟨w, hw, hk⟩ := drummed_plans h.settled h.calm h.state h.unsecured h.keeps (drumOf s.now p)
  exact ⟨w, by rw [exec_drumNotice hears rfl h.length, withDrum_changed h.changed, hw], hk⟩

include ha hx

/-- A target 10 kPa or more above the last submitted one is submitted at once (R66). -/
theorem Redrums.rises (hj : s.mod.join = .planner) {st : Step}
    (hst : st = { target := x.pT, rate := 0, source := .planner, clamped := x.clamped, unpark := s.stc.unparkMark })
    (hr : s.hpl.lastSubmitted + 10 ≤ x.pT) :
    ∃ t, Machine.exec (.drumNotice 9 p) s = .next t ∧ t.hpl.pT = x.pT ∧ t.hpl.lastSubmitted = x.pT
      ∧ t.hpl.decreaseWait = none ∧ t.mod = (s.mod.placePlanner st).mod := by
  obtain ⟨w, hw, hk⟩ := h.exec
  have e := planEvent_rises (s := computing (drummed (drumOf s.now p) s)) (.inl h.state) ha
    (hx.trans (fullPlan_drummed _ s a).symm) hj hst hr
  have hp : w.hpl = { x with lastSubmitted := x.pT, decreaseWait := none } := congrArg Kernel.hpl (hk.trans e)
  have hpT : w.hpl.pT = x.pT := by rw [hp]
  have hlast : w.hpl.lastSubmitted = x.pT := by rw [hp]
  have hwait : w.hpl.decreaseWait = none := by rw [hp]
  have hmod : w.mod = (s.mod.placePlanner st).mod := congrArg Kernel.mod (hk.trans e)
  exact ⟨_, hw, hpT, hlast, hwait, hmod⟩

/-- Below that it leaves MOD as it is, and the decrease wait follows the target (R66). -/
theorem Redrums.waits (hr : x.pT < s.hpl.lastSubmitted + 10) :
    ∃ t, Machine.exec (.drumNotice 9 p) s = .next t ∧ t.hpl.pT = x.pT ∧ t.hpl.lastSubmitted = s.hpl.lastSubmitted
      ∧ t.mod = s.mod ∧ t.hpl.decreaseWait = waitAfter x := by
  obtain ⟨w, hw, hk⟩ := h.exec
  have e := planEvent_waits (s := computing (drummed (drumOf s.now p) s)) (.inl h.state) ha
    (hx.trans (fullPlan_drummed _ s a).symm) hr
  have hp : w.hpl = { x with decreaseWait := waitAfter x } := congrArg Kernel.hpl (hk.trans e)
  have hkept : x.lastSubmitted = s.hpl.lastSubmitted := by
    rw [hx]
    exact congrArg PlanKept.lastSubmitted (kept_fullPlan _ a)
  have hpT : w.hpl.pT = x.pT := by rw [hp]
  have hlast : w.hpl.lastSubmitted = s.hpl.lastSubmitted := by rw [hp, ← hkept]
  have hwait : w.hpl.decreaseWait = waitAfter x := by rw [hp]
  have hmod : w.mod = s.mod := congrArg Kernel.mod (hk.trans e)
  exact ⟨_, hw, hpT, hlast, hmod, hwait⟩

end

/-- The wait after a computation, from the one before it (R66). -/
theorem waitAfter_fullPlan {s : State} {a : AxleParams} {x : Plan} {new : Option DecreaseWait} (hx : x = fullPlan s a)
    (hnew : new = (if x.pT + 40 ≤ s.hpl.lastSubmitted then some { remaining := 1000, start := x.pT, lowest := x.pT } else none)) :
    (s.hpl.decreaseWait = none → waitAfter x = new)
      ∧ (∀ w, s.hpl.decreaseWait = some w →
          waitAfter x = (if w.lowest + 10 ≤ x.pT ∨ s.hpl.lastSubmitted < x.pT + 40 then new
            else some { w with lowest := min w.lowest x.pT })) := by
  have kept : x.kept = s.hpl.kept := by
    rw [hx]
    exact kept_fullPlan s a
  have hwait : x.decreaseWait = s.hpl.decreaseWait := congrArg PlanKept.decreaseWait kept
  have hlast : x.lastSubmitted = s.hpl.lastSubmitted := congrArg PlanKept.lastSubmitted kept
  refine ⟨fun hw => ?_, fun w hw => ?_⟩
  · simp [waitAfter, targetFalls, hwait, hlast, hw, hnew]
  · simp [waitAfter, targetFalls, hwait, hlast, hw, hnew]

/-- Settles O37: at the end of its wait the target is submitted where it still falls, and the answers that the event asks for leave it
so; a computation decides by its rise, and the station idles after it. -/
theorem decreaseWaitEnds : Obligations.DecreaseWaitEnds := by
  unfold Obligations.DecreaseWaitEnds
  refine ⟨fun s w f h hw hs hj hf => ⟨fun h1 h2 h3 => ?_, decreaseWait_lapses h hw⟩,
    fun s w h hw hs hj hf => ⟨fun h1 h2 => ?_, decreaseWait_lapses h hw⟩, ?_⟩
  · obtain ⟨t, ht, k1, k2, k3⟩ := decreaseWait_submits h hw hs hj rfl h1 h2 fun g hg => by
      rw [hf] at hg
      cases hg
      exact h3
    rw [placePlanner_waits hf fun hx => absurd hx.2 (Nat.not_lt.2 h3)] at k3
    exact ⟨t, ht, k1, k2, by rw [k3]; exact hf, by rw [k3]⟩
  · have idle (g : InFlight) (hg : s.mod.inFlight = some g) {q : Prop} : q := by
      rw [hf] at hg
      cases hg
    obtain ⟨t, ht, k1, k2, k3⟩ := decreaseWait_submits h hw hs hj rfl h1 h2 fun g hg => idle g hg
    exact ⟨t, ht, k1, k2, k3 ▸ placePlanner_begins fun g hg => idle g hg⟩
  · intro p s a x st new h hc hl hp hd hs hn hr hj ha hx hst hnew
    have hd : Redrums p s := ⟨h, hc, hl, hp, hd, hs, hn, hr⟩
    have htarget : st.target = x.pT := by rw [hst]
    refine ⟨fun hrise => ?_, fun hrise => ?_⟩
    · obtain ⟨t, ht, k1, k2, k3, k4⟩ := hd.rises ha hx hj hst hrise
      refine ⟨t, ht, k1, k2, k3, fun hb => ?_, fun f hf hb => ?_⟩
      · rw [k4]
        exact placePlanner_begins (by rw [htarget]; exact hb)
      · rw [k4, placePlanner_waits hf (by rw [htarget]; exact hb)]
        exact ⟨hf, rfl⟩
    · obtain ⟨t, ht, k1, k2, k3, k4⟩ := hd.waits ha hx hrise
      obtain ⟨w1, w2⟩ := waitAfter_fullPlan hx hnew
      exact ⟨t, ht, k1, k2, k3, fun hw => k4.trans (w1 hw), fun w hw => k4.trans (w2 w hw)⟩

end Sys2Proof.Machine
end
